-- ==== Sys2Proof/Word.lean ====
section
/-! DEFINITION. The two widths of the TLCS-870/C: a byte (a memory cell, an 8-bit register) and a
16-bit word (a register pair, IX, IY, SP, PC, an address). 00_scope.md R8, R10. -/

namespace Sys2Proof

/-- A memory cell or an 8-bit register (00_scope.md R8). -/
abbrev Byte := BitVec 8

/-- A 16-bit register, a 16-bit datum or an address (00_scope.md R8). -/
abbrev Word := BitVec 16

end Sys2Proof
end

