-- ==== Sys2Proof/Machine/Bits.lean ====
section
/-! DEFINITION. Byte order, sign extension and bit fields (00_scope.md R11). -/

namespace Sys2Proof.Machine

/-- `v[7:0]` of a word (20_memory.md R52). -/
def loByte (w : Word) : Byte := w.extractLsb' 0 8

/-- `v[15:8]` of a word (20_memory.md R52). -/
def hiByte (w : Word) : Byte := w.extractLsb' 8 8

/-- `hi ++ lo` (00_scope.md R11). -/
def mkWord (hi lo : Byte) : Word := hi ++ lo

/-- `zext_16` of a byte (00_scope.md R11). -/
def zext16 (b : Byte) : Word := b.setWidth 16

/-- `sext_16` of a byte (00_scope.md R11, 30_encoding.md R87). -/
def sext16 (b : Byte) : Word := b.signExtend 16

/-- `sext_16` of a 5-bit displacement (30_encoding.md R97). -/
def sext16of5 (d : BitVec 5) : Word := d.signExtend 16

/-- The byte whose only set bit is bit n (44_bit_flag.md R350 (7)). -/
def bitMask (n : BitVec 3) : Byte := 1#8 <<< n.toNat

/-- `bit(v, n)` (44_bit_flag.md R350 (7)). -/
def bitOf (v : Byte) (n : BitVec 3) : Bool := v.getLsbD n.toNat

/-- `v | (1 << n)` (44_bit_flag.md R353). -/
def bitSet (v : Byte) (n : BitVec 3) : Byte := v ||| bitMask n

/-- `v & ~(1 << n)` (44_bit_flag.md R356). -/
def bitClear (v : Byte) (n : BitVec 3) : Byte := v &&& ~~~(bitMask n)

/-- `v ^ (1 << n)` (44_bit_flag.md R359). -/
def bitFlip (v : Byte) (n : BitVec 3) : Byte := v ^^^ bitMask n

/-- `setbit(v, n, c)` (44_bit_flag.md R350 (7)). -/
def bitPut (v : Byte) (n : BitVec 3) (c : Bool) : Byte := if c then bitSet v n else bitClear v n

/-- `v[7:4]` of a byte. -/
def hiNibble (b : Byte) : BitVec 4 := b.extractLsb' 4 4

/-- `v[3:0]` of a byte. -/
def loNibble (b : Byte) : BitVec 4 := b.extractLsb' 0 4

/-- `hi ++ lo` of two nibbles. -/
def mkByte (hi lo : BitVec 4) : Byte := hi ++ lo

end Sys2Proof.Machine
end

