-- ==== Sys2Proof/Config.lean ====
section
/-! DEFINITION. What the spec leaves open as a value: uninterpreted constants, so that a statement
about them holds whatever they are. A function of a counter gives a fresh value at each draw
(00_scope.md R11 `draw(name)`; 92_eei_decisions.md, "Open parameters, collected"). -/

namespace Sys2Proof

/-- One access to an address of a `device` region, which the spec calls a host event
(20_memory.md R59). -/
inductive DeviceEvent where
  /-- a byte read: the address and the value the device gave -/
  | read (addr : Word) (value : Byte)
  /-- a byte written: the address and the value the device received -/
  | write (addr : Word) (value : Byte)
  deriving DecidableEq, Repr

namespace Config

/-- `draw(psw_low_bits)`, by the number of the draw: bits 1 and 0 of a stored PSW byte
(10_state.md R30, D6; log 13). -/
opaque pswLowBits : Nat → BitVec 2

/-- `draw(undef_flag_value)`, by the number of the draw: HF after a 16-bit CMP, ADD, ADDC, SUB or
SUBB (10_state.md R34, D7; log 12), and ZF after DIV with divisor 0 (42 R294, D8; log 14). -/
opaque undefFlagValue : Nat → Bool

/-- `draw(div_overflow_value)`, by the number of the draw: a result register of DIV after a
division by zero or a quotient over FFH (42 R294, D8; log 14). -/
opaque divOverflowValue : Nat → Byte

/-- `draw(daa_out_of_table)`, by the number of the draw: g, CF and HF after DAA or DAS of a
combination that is in no row of its table (42 R291, R292, D9; log 15). -/
opaque daaOutOfTable : Nat → Byte × Bool × Bool

/-- What a device gives for a read, as a function of every access made so far and the address:
the caller-supplied device function of 20_memory.md R59 (log 6). -/
opaque deviceRead : List DeviceEvent → Word → Byte

/-- `irq_vector(k)`: the address of the vector word of maskable source k (60_exceptions.md R462,
D11; log 22). -/
opaque irqVector : Nat → Word

/-- `nmi_vector`: the address of the vector word of the non-maskable interrupt (60_exceptions.md
R462, D11; log 22). -/
opaque nmiVector : Word

end Config

end Sys2Proof
end

