-- ==== Sys2Proof/Machine/State.lean ====
section
/-! DEFINITION. The state of the machine as plain data: the registers, flags and memory of
10_state.md R20, the spec's named parameters (00_scope.md R9) as data, and the model's own counters;
the faults and refusals of a step; the state after reset. -/

namespace Sys2Proof.Machine

/-- The general registers, IX, IY and SP (10_state.md R20, R21, R24, R25). The pairs WA, BC, DE, HL
are no storage of their own (R23). -/
structure Regs where
  a : Byte
  w : Byte
  c : Byte
  b : Byte
  e : Byte
  d : Byte
  l : Byte
  h : Byte
  ix : Word
  iy : Word
  sp : Word
  deriving DecidableEq, Repr

/-- PSW, the program status word: six flags (10_state.md R29 to R35). -/
structure Psw where
  /-- jump status flag, bit 7 of the byte image -/
  jf : Bool
  /-- zero flag, bit 6 -/
  zf : Bool
  /-- carry flag, bit 5 -/
  cf : Bool
  /-- half-carry flag, bit 4 -/
  hf : Bool
  /-- sign flag, bit 3 -/
  sf : Bool
  /-- overflow flag, bit 2 -/
  vf : Bool
  deriving DecidableEq, Repr

/-- What stands behind an address (20_memory.md R59). -/
inductive RegionKind where
  /-- a read returns the last write -/
  | ram
  /-- writes are ignored, reads return the initial content -/
  | rom
  /-- reads and writes are host events -/
  | device
  /-- nothing: the model refuses the access -/
  | absent
  deriving DecidableEq, Repr

/-- An address range, both ends included, and its kind (20_memory.md R59; log 5). -/
structure Region where
  first : Word
  last : Word
  kind : RegionKind
  deriving DecidableEq, Repr

/-- What the host may offer between two instructions (60_exceptions.md R460, R477). -/
inductive HostEvent where
  /-- a maskable interrupt of source k -/
  | interrupt (k : Nat)
  /-- the non-maskable interrupt -/
  | nmi
  /-- reset (70_reset_and_hazards.md R480) -/
  | reset
  deriving DecidableEq, Repr

/-- `reset_state`: a value for every register, flag and memory byte
(70_reset_and_hazards.md R480, R481). -/
structure Launch where
  regs : Regs
  pc : Word
  psw : Psw
  mem : Memory
  deriving DecidableEq, Repr

/-- The state of the machine. -/
structure State where
  /-- the general registers, IX, IY, SP -/
  regs : Regs
  /-- the program counter: between instructions, the address of the next one (10_state.md R26) -/
  pc : Word
  /-- the flags -/
  psw : Psw
  /-- the 65536 bytes of memory, IMF among them: bit 0 of 003AH (10_state.md R36) -/
  mem : Memory
  /-- parameter `mem_regions`: the first range that holds an address gives its kind, an address in
  none is `ram` (20_memory.md R59; log 5) -/
  regions : List Region
  /-- parameter `halt_address` (60_exceptions.md R477; log 24) -/
  haltAddress : Option Word
  /-- parameter `reset_state`, which a reset event loads (70_reset_and_hazards.md R480) -/
  launch : Launch
  /-- the host's offers: the list at the head is what it offers at the next instruction boundary,
  and so on; empty: it offers nothing any more (60_exceptions.md R460, R464; log 22) -/
  schedule : List (List HostEvent)
  /-- the accesses made to `device` addresses, the latest first (20_memory.md R59; log 6) -/
  deviceLog : List DeviceEvent
  /-- the model's own: how many free values have been drawn (log 16) -/
  draws : Nat
  deriving DecidableEq, Repr

/-- Why a run stops with a fault. -/
inductive Fault where
  /-- `UndefinedInstruction(bytes)`: raised by decoding an undefined encoding, and by the meaning of
  a prefix followed by a second opcode that is undefined after it (30_encoding.md R111, R112). Safe:
  the model stops where the source says nothing of what the hardware does. -/
  | undefinedInstruction (bytes : List Byte)
  /-- `AbsentMemory(addr)`: raised by a read or write of an address in an `absent` region
  (20_memory.md R59). Safe: the model stops where the source says nothing of such addresses; it
  cannot occur under the default regions. -/
  | absentMemory (addr : Word)
  deriving DecidableEq, Repr

/-- Why a step is refused. -/
inductive Refusal where
  /-- An instruction that has no meaning yet. Raised by an arm of exec only; no arm does. Safe. -/
  | notModelled (mnemonic : String)
  /-- The run is final: PC is at `halt_address` at an instruction boundary (60_exceptions.md R477;
  log 24). Raised by step before the fetch, never under the default of no `halt_address`. Safe: the
  model stops where the hardware goes on. -/
  | runEnded
  deriving DecidableEq, Repr

/-- What a meaning or a step answers. -/
abbrev Result := Host.Outcome State Fault Refusal

/-- The default `reset_state`: DESIGN CHOICE zero for every register and flag and nothing listed in
memory; the spec states no value (10_state.md R40; log 1, 2, 3). Unsafe. -/
def Launch.zero : Launch where
  regs := { a := 0, w := 0, c := 0, b := 0, e := 0, d := 0, l := 0, h := 0, ix := 0, iy := 0, sp := 0 }
  pc := 0
  psw := { jf := false, zf := false, cf := false, hf := false, sf := false, vf := false }
  mem := []

/-- The machine right after reset: the default `reset_state` under the spec's default parameters, all
addresses `ram`, no `halt_address`, a host that offers nothing (00_scope.md R9). -/
def State.reset : State where
  regs := Launch.zero.regs
  pc := Launch.zero.pc
  psw := Launch.zero.psw
  mem := Launch.zero.mem
  regions := []
  haltAddress := none
  launch := Launch.zero
  schedule := []
  deviceLog := []
  draws := 0

end Sys2Proof.Machine
end

