-- ==== Sys2Proof/Machine/Flags.lean ====
section
/-! DEFINITION. Results and flags: addN and subN (41 R200), the flag rows (R201, 42 R260), increment
and decrement (R285 to R290), the decimal adjustments (R291, R292), multiply and divide (R293,
R294), negate (R295), shifts and rotates (43 R331 to R337), and the conditions of JR and JRS
(30_encoding.md R117). -/

namespace Sys2Proof.Machine

/-! ## Addition and subtraction -/

/-- What addN and subN return (41 R200). -/
structure AddSub (n : Nat) where
  res : BitVec n
  carry : Bool
  half : Bool
  sign : Bool
  ovf : Bool
  zero : Bool
  deriving DecidableEq, Repr

/-- addN(a, b, cin) (41 R200; log 17). -/
def addN {n : Nat} (a b : BitVec n) (cin : Bool) : AddSub n :=
  let full := a.toNat + b.toNat + cin.toNat
  let res := BitVec.ofNat n full
  { res := res
    carry := decide (2 ^ n ≤ full)
    half := decide (16 ≤ a.toNat % 16 + b.toNat % 16 + cin.toNat)
    sign := res.msb
    ovf := a.msb == b.msb && res.msb != a.msb
    zero := res == 0 }

/-- subN(a, b, cin) (41 R200; log 17). -/
def subN {n : Nat} (a b : BitVec n) (cin : Bool) : AddSub n :=
  let res := a - b - BitVec.ofNat n cin.toNat
  { res := res
    carry := decide (a.toNat < b.toNat + cin.toNat)
    half := decide (a.toNat % 16 < b.toNat % 16 + cin.toNat)
    sign := res.msb
    ovf := a.msb != b.msb && res.msb != a.msb
    zero := res == 0 }

/-- The operation field `ooo`, in the order of its code (30_encoding.md R103). -/
inductive AluOp where
  | addc | add | subb | sub | and | xor | or | cmp
  deriving DecidableEq, Repr

/-- Flag row ARI8 or ARI16: JF and CF are the carry (41 R201). -/
def ariFlags {n : Nat} (x : AddSub n) (half : Bool) : Psw :=
  { jf := x.carry, zf := x.zero, cf := x.carry, hf := half, sf := x.sign, vf := x.ovf }

/-- Flag row CMP8 or CMP16: JF is the zero flag (41 R201). -/
def cmpFlags {n : Nat} (x : AddSub n) (half : Bool) : Psw :=
  { jf := x.zero, zf := x.zero, cf := x.carry, hf := half, sf := x.sign, vf := x.ovf }

/-- Flag row LOGIC: JF and ZF are the zero of the result, the rest unchanged (42 R260). -/
def logicFlags {n : Nat} (p : Psw) (res : BitVec n) : Psw :=
  { p with jf := res == 0, zf := res == 0 }

/-- The result and the flags of an ALU operation; `hf x` is what HF receives after an arithmetic
operation or a comparison whose sum is x. The result of CMP is discarded by its callers. -/
def aluN {n : Nat} (op : AluOp) (a b : BitVec n) (p : Psw) (hf : AddSub n → Bool) : BitVec n × Psw :=
  match op with
  | .addc => let x := addN a b p.cf; (x.res, ariFlags x (hf x))
  | .add => let x := addN a b false; (x.res, ariFlags x (hf x))
  | .subb => let x := subN a b p.cf; (x.res, ariFlags x (hf x))
  | .sub => let x := subN a b false; (x.res, ariFlags x (hf x))
  | .and => (a &&& b, logicFlags p (a &&& b))
  | .xor => (a ^^^ b, logicFlags p (a ^^^ b))
  | .or => (a ||| b, logicFlags p (a ||| b))
  | .cmp => let x := subN a b false; (x.res, cmpFlags x (hf x))

/-- The 8-bit ALU: HF is the half carry or borrow (41 R201). -/
def alu8 (op : AluOp) (a b : Byte) (p : Psw) : Byte × Psw := aluN op a b p AddSub.half

/-- The 16-bit ALU: HF is undefined after arithmetic and comparison, here the free value given
(41 R201, 10_state.md R34; log 12). -/
def alu16 (op : AluOp) (a b : Word) (p : Psw) (undef : Bool) : Word × Psw :=
  aluN op a b p fun _ => undef

/-- How many free values the 16-bit ALU draws: one for HF, none for the logic operations, which
leave HF (41 R201, 42 R260; log 16). -/
def aluDraws : AluOp → Nat
  | .addc => 1
  | .add => 1
  | .subb => 1
  | .sub => 1
  | .and => 0
  | .xor => 0
  | .or => 0
  | .cmp => 1

/-! ## Increment and decrement -/

/-- INC: the result, JF the carry out, ZF the zero of the result (42 R285 to R287). -/
def incN {n : Nat} (v : BitVec n) : BitVec n × Bool × Bool :=
  (v + 1, v == BitVec.allOnes n, v + 1 == 0)

/-- DEC: the result, JF the borrow, ZF the zero of the result (42 R288 to R290). -/
def decN {n : Nat} (v : BitVec n) : BitVec n × Bool × Bool :=
  (v - 1, v == 0, v - 1 == 0)

/-! ## Decimal adjust -/

/-- The row of DAA's table for CF, HF, g[7:4] and g[3:0]: what is added and CF after; none where no
row holds (42 R291). -/
def daaRow (cf hf : Bool) (hi lo : BitVec 4) : Option (Byte × Bool) :=
  match cf, hf with
  | false, false =>
    if lo ≤ 9 then
      if hi ≤ 9 then some (0x00, false) else some (0x60, true)
    else
      if hi ≤ 8 then some (0x06, false) else some (0x66, true)
  | false, true =>
    if lo ≤ 3 then
      if hi ≤ 9 then some (0x06, false) else some (0x66, true)
    else none
  | true, false =>
    if hi ≤ 2 then
      if lo ≤ 9 then some (0x60, true) else some (0x66, true)
    else none
  | true, true =>
    if hi ≤ 3 ∧ lo ≤ 3 then some (0x66, true) else none

/-- The row of DAS's table for CF, HF, g[7:4] and g[3:0]: what is subtracted and CF after; none
where no row holds (42 R292: adding FAH, A0H, 9AH is subtracting 06H, 60H, 66H). -/
def dasRow (cf hf : Bool) (hi lo : BitVec 4) : Option (Byte × Bool) :=
  match cf, hf with
  | false, false => if hi ≤ 9 ∧ lo ≤ 9 then some (0x00, false) else none
  | false, true => if hi ≤ 8 ∧ 6 ≤ lo then some (0x06, false) else none
  | true, false => if 7 ≤ hi ∧ lo ≤ 9 then some (0x60, true) else none
  | true, true => if 6 ≤ hi ∧ 6 ≤ lo then some (0x66, true) else none

/-- What a decimal adjustment leaves: g, CF and HF; JF is CF and ZF the zero of g (42 R291, R292). -/
structure Adjusted where
  res : Byte
  cf : Bool
  hf : Bool
  /-- how many free values were drawn: 1 outside the table -/
  draws : Nat
  deriving DecidableEq, Repr

/-- What a decimal adjustment leaves outside its table: the free values given (42 R291, R292;
log 15). -/
def adjustedFree (free : Byte × Bool × Bool) : Adjusted :=
  { res := free.1, cf := free.2.1, hf := free.2.2, draws := 1 }

/-- DAA: HF is the carry out of bit 3 of the adjusting addition (42 R291). -/
def daaN (g : Byte) (p : Psw) (free : Byte × Bool × Bool) : Adjusted :=
  match daaRow p.cf p.hf (hiNibble g) (loNibble g) with
  | some (adj, cf) => { res := g + adj, cf := cf, hf := (addN g adj false).half, draws := 0 }
  | none => adjustedFree free

/-- DAS: HF is the borrow into bit 3 of the adjusting subtraction (42 R292). -/
def dasN (g : Byte) (p : Psw) (free : Byte × Bool × Bool) : Adjusted :=
  match dasRow p.cf p.hf (hiNibble g) (loNibble g) with
  | some (sub, cf) => { res := g - sub, cf := cf, hf := (subN g sub false).half, draws := 0 }
  | none => adjustedFree free

/-! ## Multiply and divide -/

/-- The unsigned product of two bytes (42 R293). -/
def mulN (a b : Byte) : Word := BitVec.ofNat 16 (a.toNat * b.toNat)

/-- What DIV leaves: the low register, the high register, ZF (JF is the same) and CF
(42 R294). -/
structure Quotient where
  low : Byte
  high : Byte
  zf : Bool
  cf : Bool
  /-- how many free values were drawn -/
  draws : Nat
  deriving DecidableEq, Repr

/-- DIV: the unsigned quotient and remainder; after a division by zero or a quotient of 100H or more
both registers are free values, and after a division by zero ZF is one too (42 R294; log 14). -/
def divN (dividend : Word) (divisor : Byte) (free1 free2 : Byte) (freeZ : Bool) : Quotient :=
  if divisor = 0 then
    { low := free1, high := free2, zf := freeZ, cf := true, draws := 3 }
  else
    let q := dividend.toNat / divisor.toNat
    let r := dividend.toNat % divisor.toNat
    if 0x100 ≤ q then
      { low := free1, high := free2, zf := r == 0, cf := true, draws := 2 }
    else
      { low := BitVec.ofNat 8 q, high := BitVec.ofNat 8 r, zf := r == 0, cf := false, draws := 0 }

/-! ## Shifts and rotates: the result and the new carry -/

/-- SHLC: bit 7 to CF, 0 to bit 0 (43 R331). -/
def shlcN (v : Byte) : Byte × Bool := (v <<< 1, v.getLsbD 7)

/-- SHRC: bit 0 to CF, 0 to bit 7 (43 R332). -/
def shrcN (v : Byte) : Byte × Bool := (v >>> 1, v.getLsbD 0)

/-- ROLC: bit 7 to CF, the old CF to bit 0 (43 R333). -/
def rolcN (v : Byte) (c : Bool) : Byte × Bool := (bitPut (v <<< 1) 0 c, v.getLsbD 7)

/-- RORC: bit 0 to CF, the old CF to bit 7 (43 R334). -/
def rorcN (v : Byte) (c : Bool) : Byte × Bool := (bitPut (v >>> 1) 7 c, v.getLsbD 0)

/-- SHLCA: bit 15 to CF, 0 to bit 0 (43 R336). -/
def shlcaN (v : Word) : Word × Bool := (v <<< 1, v.getLsbD 15)

/-- SHRCA: bit 0 to CF, bit 15 kept (43 R337). -/
def shrcaN (v : Word) : Word × Bool := (v.sshiftRight 1, v.getLsbD 0)

/-! ## Conditions of JR and JRS (30_encoding.md R117, 45 R401 to R418) -/

/-- T: JF = 1 (45 R401, R403). -/
def condT (p : Psw) : Bool := p.jf
/-- F: JF = 0 (45 R402, R404). -/
def condF (p : Psw) : Bool := !p.jf
/-- Z, EQ: ZF = 1 (45 R405). -/
def condZ (p : Psw) : Bool := p.zf
/-- NZ, NE: ZF = 0 (45 R406). -/
def condNz (p : Psw) : Bool := !p.zf
/-- CS, LT: CF = 1 (45 R407). -/
def condCs (p : Psw) : Bool := p.cf
/-- CC, GE: CF = 0 (45 R408). -/
def condCc (p : Psw) : Bool := !p.cf
/-- LE: (CF | ZF) = 1 (45 R409). -/
def condLe (p : Psw) : Bool := p.cf || p.zf
/-- GT: (CF | ZF) = 0 (45 R410). -/
def condGt (p : Psw) : Bool := !(p.cf || p.zf)
/-- M: SF = 1 (45 R411). -/
def condM (p : Psw) : Bool := p.sf
/-- P: SF = 0 (45 R412). -/
def condP (p : Psw) : Bool := !p.sf
/-- SLT: (SF ^ VF) = 1 (45 R413). -/
def condSlt (p : Psw) : Bool := p.sf ^^ p.vf
/-- SGE: (SF ^ VF) = 0 (45 R414). -/
def condSge (p : Psw) : Bool := !(p.sf ^^ p.vf)
/-- SLE: (ZF | (SF ^ VF)) = 1 (45 R415). -/
def condSle (p : Psw) : Bool := p.zf || (p.sf ^^ p.vf)
/-- SGT: (ZF | (SF ^ VF)) = 0 (45 R416). -/
def condSgt (p : Psw) : Bool := !(p.zf || (p.sf ^^ p.vf))
/-- VS: VF = 1 (45 R417). -/
def condVs (p : Psw) : Bool := p.vf
/-- VC: VF = 0 (45 R418). -/
def condVc (p : Psw) : Bool := !p.vf

end Sys2Proof.Machine
end

