-- ==== Sys2Proof/Syntax.lean ====
section
/-! DEFINITION. The instructions of the TLCS-870/C: one constructor per row of
spec/opcode_table.json, and the operand forms they take (30_encoding.md R84 to R99). -/

namespace Sys2Proof

/-- An 8-bit register, in the order of its 3-bit code 000 to 111 (10_state.md R21). -/
inductive Reg8 where
  | a | w | c | b | e | d | l | h
  deriving DecidableEq, Repr

/-- A 16-bit register, in the order of its 3-bit code 000 to 111 (10_state.md R22). Code 111 is a
second name for HL and is kept apart from code 011, so that an encoding loses no bit (log 11). -/
inductive Reg16 where
  | wa | bc | de | hl | ix | iy | sp
  /-- code 111: HL again -/
  | hl7
  deriving DecidableEq, Repr

/-- A register pair with a 2-bit code: the operand of PUSH rr, POP rr, MUL and DIV
(30_encoding.md R84, R106). -/
inductive Pair where
  | wa | bc | de | hl
  deriving DecidableEq, Repr

/-- A source memory operand: one of thirteen modes (30_encoding.md R83, R86 to R94;
40_transfer_exchange.md R130). -/
inductive Src where
  /-- `(x)` -/
  | dir8 (x : Byte)
  /-- `(vw)` -/
  | dir16 (vw : Word)
  /-- `(DE)` -/
  | de
  /-- `(HL)` -/
  | hl
  /-- `(IX)` -/
  | ix
  /-- `(IY)` -/
  | iy
  /-- `(+SP)`, auto pre-increment -/
  | incSp
  /-- `(HL+C)` -/
  | hlC
  /-- `(IX+d)` -/
  | ixD (d : Byte)
  /-- `(IY+d)` -/
  | iyD (d : Byte)
  /-- `(SP+d)` -/
  | spD (d : Byte)
  /-- `(HL+d)` -/
  | hlD (d : Byte)
  /-- `(PC+A)` -/
  | pcA
  deriving DecidableEq, Repr

/-- A destination memory operand: one of twelve modes (30_encoding.md R83, R86 to R94;
40_transfer_exchange.md R130). -/
inductive Dst where
  /-- `(x)` -/
  | dir8 (x : Byte)
  /-- `(vw)` -/
  | dir16 (vw : Word)
  /-- `(DE)` -/
  | de
  /-- `(HL)` -/
  | hl
  /-- `(IX)` -/
  | ix
  /-- `(IY)` -/
  | iy
  /-- `(SP-)`, auto post-decrement -/
  | spDec
  /-- `(HL+C)` -/
  | hlC
  /-- `(IX+d)` -/
  | ixD (d : Byte)
  /-- `(IY+d)` -/
  | iyD (d : Byte)
  /-- `(SP+d)` -/
  | spD (d : Byte)
  /-- `(HL+d)` -/
  | hlD (d : Byte)
  deriving DecidableEq, Repr

/-- One constructor per row of spec/opcode_table.json, in the table's order. The first 26 stand for
the table's prefix rows: the first opcode with its operand bytes, followed by a second opcode that
the maps leave undefined after it (30_encoding.md R111, R112; log 9); followed by a second opcode
that the maps define, the same bytes are the instruction of the second opcode's own row. -/
inductive Instr where
  /-- `prefix: register g / gg` (R83): 11101ggg, then a second opcode the maps leave undefined after it (R111, R112) -/
  | prefixReg (g : BitVec 3) (op : Byte)
  /-- `prefix: source memory (x)` (R83): 11100000 xxxxxxxx, then a second opcode the maps leave undefined after it (R111, R112) -/
  | prefixSrcX (x : Byte) (op : Byte)
  /-- `prefix: source memory (vw)` (R83): 11100001 wwwwwwww vvvvvvvv, then a second opcode the maps leave undefined after it (R111, R112) -/
  | prefixSrcVw (vw : Word) (op : Byte)
  /-- `prefix: source memory (DE)` (R83): 11100010, then a second opcode the maps leave undefined after it (R111, R112) -/
  | prefixSrcDe (op : Byte)
  /-- `prefix: source memory (HL)` (R83): 11100011, then a second opcode the maps leave undefined after it (R111, R112) -/
  | prefixSrcHl (op : Byte)
  /-- `prefix: source memory (IX)` (R83): 11100100, then a second opcode the maps leave undefined after it (R111, R112) -/
  | prefixSrcIx (op : Byte)
  /-- `prefix: source memory (IY)` (R83): 11100101, then a second opcode the maps leave undefined after it (R111, R112) -/
  | prefixSrcIy (op : Byte)
  /-- `prefix: source memory (+SP)` (R83): 11100110, then a second opcode the maps leave undefined after it (R111, R112) -/
  | prefixSrcIncSp (op : Byte)
  /-- `prefix: source memory (HL+C)` (R83): 11100111, then a second opcode the maps leave undefined after it (R111, R112) -/
  | prefixSrcHlC (op : Byte)
  /-- `prefix: source memory (IX+d)` (R83): 11010100 dddddddd, then a second opcode the maps leave undefined after it (R111, R112) -/
  | prefixSrcIxD (d : Byte) (op : Byte)
  /-- `prefix: source memory (IY+d)` (R83): 11010101 dddddddd, then a second opcode the maps leave undefined after it (R111, R112) -/
  | prefixSrcIyD (d : Byte) (op : Byte)
  /-- `prefix: source memory (SP+d)` (R83): 11010110 dddddddd, then a second opcode the maps leave undefined after it (R111, R112) -/
  | prefixSrcSpD (d : Byte) (op : Byte)
  /-- `prefix: source memory (HL+d)` (R83): 11010111 dddddddd, then a second opcode the maps leave undefined after it (R111, R112) -/
  | prefixSrcHlD (d : Byte) (op : Byte)
  /-- `prefix: source memory (PC+A)` (R83): 01001111, then a second opcode the maps leave undefined after it (R111, R112) -/
  | prefixSrcPcA (op : Byte)
  /-- `prefix: destination memory (x)` (R83): 11110000 xxxxxxxx, then a second opcode the maps leave undefined after it (R111, R112) -/
  | prefixDstX (x : Byte) (op : Byte)
  /-- `prefix: destination memory (vw)` (R83): 11110001 wwwwwwww vvvvvvvv, then a second opcode the maps leave undefined after it (R111, R112) -/
  | prefixDstVw (vw : Word) (op : Byte)
  /-- `prefix: destination memory (DE)` (R83): 11110010, then a second opcode the maps leave undefined after it (R111, R112) -/
  | prefixDstDe (op : Byte)
  /-- `prefix: destination memory (HL)` (R83): 11110011, then a second opcode the maps leave undefined after it (R111, R112) -/
  | prefixDstHl (op : Byte)
  /-- `prefix: destination memory (IX)` (R83): 11110100, then a second opcode the maps leave undefined after it (R111, R112) -/
  | prefixDstIx (op : Byte)
  /-- `prefix: destination memory (IY)` (R83): 11110101, then a second opcode the maps leave undefined after it (R111, R112) -/
  | prefixDstIy (op : Byte)
  /-- `prefix: destination memory (SP-)` (R83): 11110110, then a second opcode the maps leave undefined after it (R111, R112) -/
  | prefixDstSpDec (op : Byte)
  /-- `prefix: destination memory (HL+C)` (R83): 11110111, then a second opcode the maps leave undefined after it (R111, R112) -/
  | prefixDstHlC (op : Byte)
  /-- `prefix: destination memory (IX+d)` (R83): 01010100 dddddddd, then a second opcode the maps leave undefined after it (R111, R112) -/
  | prefixDstIxD (d : Byte) (op : Byte)
  /-- `prefix: destination memory (IY+d)` (R83): 01010101 dddddddd, then a second opcode the maps leave undefined after it (R111, R112) -/
  | prefixDstIyD (d : Byte) (op : Byte)
  /-- `prefix: destination memory (SP+d)` (R83): 01010110 dddddddd, then a second opcode the maps leave undefined after it (R111, R112) -/
  | prefixDstSpD (d : Byte) (op : Byte)
  /-- `prefix: destination memory (HL+d)` (R83): 01010111 dddddddd, then a second opcode the maps leave undefined after it (R111, R112) -/
  | prefixDstHlD (d : Byte) (op : Byte)
  /-- `NOP` (R444): 00000000 -/
  | nop
  /-- `CLR CF` (R381): 00000100 -/
  | clrCf
  /-- `SET CF` (R380): 00000101 -/
  | setCf
  /-- `CPL CF` (R382): 00000110 -/
  | cplCf
  /-- `CMP (x),n` (R211): 00000111 xxxxxxxx nnnnnnnn -/
  | cmpXN (x : Byte) (n : Byte)
  /-- `LDW (x),mn` (R148): 00001000 xxxxxxxx nnnnnnnn mmmmmmmm -/
  | ldwXMn (x : Byte) (mn : Word)
  /-- `LDW (HL),mn` (R149): 00001001 nnnnnnnn mmmmmmmm -/
  | ldwHlMn (mn : Word)
  /-- `LD (x),n` (R145): 00001010 xxxxxxxx nnnnnnnn -/
  | ldXN (x : Byte) (n : Byte)
  /-- `LD (HL),n` (R146): 00001011 nnnnnnnn -/
  | ldHlN (n : Byte)
  /-- `LD A,(x)` (R135): 00001100 xxxxxxxx -/
  | ldAX (x : Byte)
  /-- `LD A,(HL)` (R136): 00001101 -/
  | ldAHl
  /-- `LD (x),A` (R139): 00001110 xxxxxxxx -/
  | ldXA (x : Byte)
  /-- `LD (HL),A` (R140): 00001111 -/
  | ldHlA
  /-- `LD A,r` (R131): 00010rrr -/
  | ldAR (r : Reg8)
  /-- `LD r,n` (R143): 00011rrr nnnnnnnn -/
  | ldRN (r : Reg8) (n : Byte)
  /-- `INC r` (R285): 00100rrr -/
  | incR (r : Reg8)
  /-- `DEC r` (R288): 00101rrr -/
  | decR (r : Reg8)
  /-- `INC rr` (R286): 00110rrr -/
  | incRr (rr : Reg16)
  /-- `LD SP,SP+d` (R167): 00110111 dddddddd -/
  | ldSpPlusD (d : Byte)
  /-- `DEC rr` (R289): 00111rrr -/
  | decRr (rr : Reg16)
  /-- `LD SP,SP-d` (R168): 00111111 dddddddd -/
  | ldSpMinusD (d : Byte)
  /-- `LD r,A` (R132): 01000rrr -/
  | ldRA (r : Reg8)
  /-- `LD rr,mn` (R144): 01001rrr nnnnnnnn mmmmmmmm -/
  | ldRrMn (rr : Reg16) (mn : Word)
  /-- `PUSH rr` (R160): 010100rr -/
  | pushRr (p : Pair)
  /-- `LD CF,(x).b` (R371): 01011bbb xxxxxxxx -/
  | ldCfXB (b : BitVec 3) (x : Byte)
  /-- `ADDC A,n` (R221): 01100000 nnnnnnnn -/
  | addcAN (n : Byte)
  /-- `ADD A,n` (R213): 01100001 nnnnnnnn -/
  | addAN (n : Byte)
  /-- `SUBB A,n` (R237): 01100010 nnnnnnnn -/
  | subbAN (n : Byte)
  /-- `SUB A,n` (R229): 01100011 nnnnnnnn -/
  | subAN (n : Byte)
  /-- `AND A,n` (R261): 01100100 nnnnnnnn -/
  | andAN (n : Byte)
  /-- `XOR A,n` (R277): 01100101 nnnnnnnn -/
  | xorAN (n : Byte)
  /-- `OR A,n` (R269): 01100110 nnnnnnnn -/
  | orAN (n : Byte)
  /-- `CMP A,n` (R205): 01100111 nnnnnnnn -/
  | cmpAN (n : Byte)
  /-- `CALLV n` (R432): 0111nnnn -/
  | callv (n : BitVec 4)
  /-- `JRS T,$+2+d` (R401): 100ddddd -/
  | jrsT (d : BitVec 5)
  /-- `JRS F,$+2+d` (R402): 101ddddd -/
  | jrsF (d : BitVec 5)
  /-- `SET (x).b` (R353): 11000bbb xxxxxxxx -/
  | setXB (b : BitVec 3) (x : Byte)
  /-- `CLR (x).b` (R356): 11001bbb xxxxxxxx -/
  | clrXB (b : BitVec 3) (x : Byte)
  /-- `POP rr` (R162): 110100rr -/
  | popRr (p : Pair)
  /-- `JR Z / EQ,$+2+d` (R405): 11011000 dddddddd -/
  | jrZ (d : Byte)
  /-- `JR NZ / NE,$+2+d` (R406): 11011001 dddddddd -/
  | jrNz (d : Byte)
  /-- `JR CS / LT,$+2+d` (R407): 11011010 dddddddd -/
  | jrCs (d : Byte)
  /-- `JR CC / GE,$+2+d` (R408): 11011011 dddddddd -/
  | jrCc (d : Byte)
  /-- `JR LE,$+2+d` (R409): 11011100 dddddddd -/
  | jrLe (d : Byte)
  /-- `JR GT,$+2+d` (R410): 11011101 dddddddd -/
  | jrGt (d : Byte)
  /-- `JR T,$+2+d` (R403): 11011110 dddddddd -/
  | jrT (d : Byte)
  /-- `JR F,$+2+d` (R404): 11011111 dddddddd -/
  | jrF (d : Byte)
  /-- `RET` (R440): 11111010 -/
  | ret
  /-- `RETI` (R441): 11111011 -/
  | reti
  /-- `JR $+2+d` (R419): 11111100 dddddddd -/
  | jr (d : Byte)
  /-- `CALL mn` (R433): 11111101 nnnnnnnn mmmmmmmm -/
  | callMn (mn : Word)
  /-- `JP mn` (R420): 11111110 nnnnnnnn mmmmmmmm -/
  | jpMn (mn : Word)
  /-- `SWI` (R443): 11111111 -/
  | swi
  /-- `EI` (R393): 11000000 00111010 -/
  | ei
  /-- `DI` (R392): 11001000 00111010 -/
  | di
  /-- `ADDC r,g` (R224): 11101ggg 00rrr000 -/
  | addcRG (r : Reg8) (g : Reg8)
  /-- `ADD r,g` (R216): 11101ggg 00rrr001 -/
  | addRG (r : Reg8) (g : Reg8)
  /-- `SUBB r,g` (R240): 11101ggg 00rrr010 -/
  | subbRG (r : Reg8) (g : Reg8)
  /-- `SUB r,g` (R232): 11101ggg 00rrr011 -/
  | subRG (r : Reg8) (g : Reg8)
  /-- `AND r,g` (R264): 11101ggg 00rrr100 -/
  | andRG (r : Reg8) (g : Reg8)
  /-- `XOR r,g` (R280): 11101ggg 00rrr101 -/
  | xorRG (r : Reg8) (g : Reg8)
  /-- `OR r,g` (R272): 11101ggg 00rrr110 -/
  | orRG (r : Reg8) (g : Reg8)
  /-- `CMP r,g` (R208): 11101ggg 00rrr111 -/
  | cmpRG (r : Reg8) (g : Reg8)
  /-- `LD r,g` (R133): 11101ggg 01000rrr -/
  | ldRG (r : Reg8) (g : Reg8)
  /-- `LD rr,gg` (R134): 11101ggg 01001rrr -/
  | ldRrGg (rr : Reg16) (gg : Reg16)
  /-- `XOR CF,g.b` (R377): 11101ggg 01010bbb -/
  | xorCfGB (g : Reg8) (b : BitVec 3)
  /-- `LD CF,g.b` (R370): 11101ggg 01011bbb -/
  | ldCfGB (g : Reg8) (b : BitVec 3)
  /-- `ADDC g,n` (R222): 11101ggg 01100000 nnnnnnnn -/
  | addcGN (g : Reg8) (n : Byte)
  /-- `ADD g,n` (R214): 11101ggg 01100001 nnnnnnnn -/
  | addGN (g : Reg8) (n : Byte)
  /-- `SUBB g,n` (R238): 11101ggg 01100010 nnnnnnnn -/
  | subbGN (g : Reg8) (n : Byte)
  /-- `SUB g,n` (R230): 11101ggg 01100011 nnnnnnnn -/
  | subGN (g : Reg8) (n : Byte)
  /-- `AND g,n` (R262): 11101ggg 01100100 nnnnnnnn -/
  | andGN (g : Reg8) (n : Byte)
  /-- `XOR g,n` (R278): 11101ggg 01100101 nnnnnnnn -/
  | xorGN (g : Reg8) (n : Byte)
  /-- `OR g,n` (R270): 11101ggg 01100110 nnnnnnnn -/
  | orGN (g : Reg8) (n : Byte)
  /-- `CMP g,n` (R206): 11101ggg 01100111 nnnnnnnn -/
  | cmpGN (g : Reg8) (n : Byte)
  /-- `ADDC gg,mn` (R223): 11101ggg 01101000 nnnnnnnn mmmmmmmm -/
  | addcGgMn (gg : Reg16) (mn : Word)
  /-- `ADD gg,mn` (R215): 11101ggg 01101001 nnnnnnnn mmmmmmmm -/
  | addGgMn (gg : Reg16) (mn : Word)
  /-- `SUBB gg,mn` (R239): 11101ggg 01101010 nnnnnnnn mmmmmmmm -/
  | subbGgMn (gg : Reg16) (mn : Word)
  /-- `SUB gg,mn` (R231): 11101ggg 01101011 nnnnnnnn mmmmmmmm -/
  | subGgMn (gg : Reg16) (mn : Word)
  /-- `AND gg,mn` (R263): 11101ggg 01101100 nnnnnnnn mmmmmmmm -/
  | andGgMn (gg : Reg16) (mn : Word)
  /-- `XOR gg,mn` (R279): 11101ggg 01101101 nnnnnnnn mmmmmmmm -/
  | xorGgMn (gg : Reg16) (mn : Word)
  /-- `OR gg,mn` (R271): 11101ggg 01101110 nnnnnnnn mmmmmmmm -/
  | orGgMn (gg : Reg16) (mn : Word)
  /-- `CMP gg,mn` (R207): 11101ggg 01101111 nnnnnnnn mmmmmmmm -/
  | cmpGgMn (gg : Reg16) (mn : Word)
  /-- `XCH r,g` (R170): 11101ggg 01110rrr -/
  | xchRG (r : Reg8) (g : Reg8)
  /-- `XCH rr,gg` (R171): 11101ggg 01111rrr -/
  | xchRrGg (rr : Reg16) (gg : Reg16)
  /-- `ADDC rr,gg` (R225): 11101ggg 10rrr000 -/
  | addcRrGg (rr : Reg16) (gg : Reg16)
  /-- `ADD rr,gg` (R217): 11101ggg 10rrr001 -/
  | addRrGg (rr : Reg16) (gg : Reg16)
  /-- `SUBB rr,gg` (R241): 11101ggg 10rrr010 -/
  | subbRrGg (rr : Reg16) (gg : Reg16)
  /-- `SUB rr,gg` (R233): 11101ggg 10rrr011 -/
  | subRrGg (rr : Reg16) (gg : Reg16)
  /-- `AND rr,gg` (R265): 11101ggg 10rrr100 -/
  | andRrGg (rr : Reg16) (gg : Reg16)
  /-- `XOR rr,gg` (R281): 11101ggg 10rrr101 -/
  | xorRrGg (rr : Reg16) (gg : Reg16)
  /-- `OR rr,gg` (R273): 11101ggg 10rrr110 -/
  | orRrGg (rr : Reg16) (gg : Reg16)
  /-- `CMP rr,gg` (R209): 11101ggg 10rrr111 -/
  | cmpRrGg (rr : Reg16) (gg : Reg16)
  /-- `SET g.b` (R354): 11101ggg 11000bbb -/
  | setGB (g : Reg8) (b : BitVec 3)
  /-- `CLR g.b` (R357): 11101ggg 11001bbb -/
  | clrGB (g : Reg8) (b : BitVec 3)
  /-- `JR M,$+3+d` (R411): 11101000 11010000 dddddddd -/
  | jrM (d : Byte)
  /-- `JR P,$+3+d` (R412): 11101000 11010001 dddddddd -/
  | jrP (d : Byte)
  /-- `JR SLT,$+3+d` (R413): 11101000 11010010 dddddddd -/
  | jrSlt (d : Byte)
  /-- `JR SGE,$+3+d` (R414): 11101000 11010011 dddddddd -/
  | jrSge (d : Byte)
  /-- `JR SLE,$+3+d` (R415): 11101000 11010100 dddddddd -/
  | jrSle (d : Byte)
  /-- `JR SGT,$+3+d` (R416): 11101000 11010101 dddddddd -/
  | jrSgt (d : Byte)
  /-- `JR VS,$+3+d` (R417): 11101000 11010110 dddddddd -/
  | jrVs (d : Byte)
  /-- `JR VC,$+3+d` (R418): 11101000 11010111 dddddddd -/
  | jrVc (d : Byte)
  /-- `PUSH gg` (R161): 11101ggg 11011000 -/
  | pushGg (gg : Reg16)
  /-- `POP gg` (R163): 11101ggg 11011001 -/
  | popGg (gg : Reg16)
  /-- `DAA g` (R291): 11101ggg 11011010 -/
  | daa (g : Reg8)
  /-- `DAS g` (R292): 11101ggg 11011011 -/
  | das (g : Reg8)
  /-- `PUSH PSW` (R164): 11101000 11011100 -/
  | pushPsw
  /-- `POP PSW` (R165): 11101000 11011101 -/
  | popPsw
  /-- `LD PSW,n` (R166): 11101000 11011110 nnnnnnnn -/
  | ldPswN (n : Byte)
  /-- `CPL g.b` (R360): 11101ggg 11100bbb -/
  | cplGB (g : Reg8) (b : BitVec 3)
  /-- `LD g.b,CF` (R374): 11101ggg 11101bbb -/
  | ldGBCf (g : Reg8) (b : BitVec 3)
  /-- `SHLCA gg` (R336): 11101ggg 11110000 -/
  | shlca (gg : Reg16)
  /-- `SHRCA gg` (R337): 11101ggg 11110001 -/
  | shrca (gg : Reg16)
  /-- `MUL ggH,ggL` (R293): 111010gg 11110010 -/
  | mul (p : Pair)
  /-- `DIV gg,C` (R294): 111010gg 11110011 -/
  | div (p : Pair)
  /-- `SHLC g` (R331): 11101ggg 11110100 -/
  | shlc (g : Reg8)
  /-- `SHRC g` (R332): 11101ggg 11110101 -/
  | shrc (g : Reg8)
  /-- `ROLC g` (R333): 11101ggg 11110110 -/
  | rolc (g : Reg8)
  /-- `RORC g` (R334): 11101ggg 11110111 -/
  | rorc (g : Reg8)
  /-- `NEG CS,gg` (R295): 11101ggg 11111010 -/
  | negCs (gg : Reg16)
  /-- `RETN` (R442): 11101000 11111011 -/
  | retn
  /-- `CALL gg` (R434): 11101ggg 11111101 -/
  | callGg (gg : Reg16)
  /-- `JP gg` (R421): 11101ggg 11111110 -/
  | jpGg (gg : Reg16)
  /-- `SWAP g` (R338): 11101ggg 11111111 -/
  | swap (g : Reg8)
  /-- `ADDC r,(src)` (R226): source prefix, 00rrr000 -/
  | addcRSrc (r : Reg8) (m : Src)
  /-- `ADD r,(src)` (R218): source prefix, 00rrr001 -/
  | addRSrc (r : Reg8) (m : Src)
  /-- `SUBB r,(src)` (R242): source prefix, 00rrr010 -/
  | subbRSrc (r : Reg8) (m : Src)
  /-- `SUB r,(src)` (R234): source prefix, 00rrr011 -/
  | subRSrc (r : Reg8) (m : Src)
  /-- `AND r,(src)` (R266): source prefix, 00rrr100 -/
  | andRSrc (r : Reg8) (m : Src)
  /-- `XOR r,(src)` (R282): source prefix, 00rrr101 -/
  | xorRSrc (r : Reg8) (m : Src)
  /-- `OR r,(src)` (R274): source prefix, 00rrr110 -/
  | orRSrc (r : Reg8) (m : Src)
  /-- `CMP r,(src)` (R210): source prefix, 00rrr111 -/
  | cmpRSrc (r : Reg8) (m : Src)
  /-- `LD r,(src)` (R137): source prefix, 01000rrr -/
  | ldRSrc (r : Reg8) (m : Src)
  /-- `LD rr,(src)` (R138): source prefix, 01001rrr -/
  | ldRrSrc (rr : Reg16) (m : Src)
  /-- `XOR CF,(src).b` (R378): source prefix, 01010bbb -/
  | xorCfSrcB (m : Src) (b : BitVec 3)
  /-- `LD CF,(src).b` (R371): source prefix, 01011bbb -/
  | ldCfSrcB (m : Src) (b : BitVec 3)
  /-- `ADDC (src),n` (R227): source prefix, 01100000 nnnnnnnn -/
  | addcSrcN (m : Src) (n : Byte)
  /-- `ADD (src),n` (R219): source prefix, 01100001 nnnnnnnn -/
  | addSrcN (m : Src) (n : Byte)
  /-- `SUBB (src),n` (R243): source prefix, 01100010 nnnnnnnn -/
  | subbSrcN (m : Src) (n : Byte)
  /-- `SUB (src),n` (R235): source prefix, 01100011 nnnnnnnn -/
  | subSrcN (m : Src) (n : Byte)
  /-- `AND (src),n` (R267): source prefix, 01100100 nnnnnnnn -/
  | andSrcN (m : Src) (n : Byte)
  /-- `XOR (src),n` (R283): source prefix, 01100101 nnnnnnnn -/
  | xorSrcN (m : Src) (n : Byte)
  /-- `OR (src),n` (R275): source prefix, 01100110 nnnnnnnn -/
  | orSrcN (m : Src) (n : Byte)
  /-- `CMP (src),n` (R211): source prefix, 01100111 nnnnnnnn -/
  | cmpSrcN (m : Src) (n : Byte)
  /-- `LD (dst),rr` (R142): destination prefix, 01101rrr -/
  | ldDstRr (m : Dst) (rr : Reg16)
  /-- `XCH r,(src)` (R172): source prefix, 01110rrr -/
  | xchRSrc (r : Reg8) (m : Src)
  /-- `LD (dst),r` (R141): destination prefix, 01111rrr -/
  | ldDstR (m : Dst) (r : Reg8)
  /-- `ADDC rr,(src)` (R228): source prefix, 10rrr000 -/
  | addcRrSrc (rr : Reg16) (m : Src)
  /-- `ADD rr,(src)` (R220): source prefix, 10rrr001 -/
  | addRrSrc (rr : Reg16) (m : Src)
  /-- `SUBB rr,(src)` (R244): source prefix, 10rrr010 -/
  | subbRrSrc (rr : Reg16) (m : Src)
  /-- `SUB rr,(src)` (R236): source prefix, 10rrr011 -/
  | subRrSrc (rr : Reg16) (m : Src)
  /-- `AND rr,(src)` (R268): source prefix, 10rrr100 -/
  | andRrSrc (rr : Reg16) (m : Src)
  /-- `XOR rr,(src)` (R284): source prefix, 10rrr101 -/
  | xorRrSrc (rr : Reg16) (m : Src)
  /-- `OR rr,(src)` (R276): source prefix, 10rrr110 -/
  | orRrSrc (rr : Reg16) (m : Src)
  /-- `CMP rr,(src)` (R212): source prefix, 10rrr111 -/
  | cmpRrSrc (rr : Reg16) (m : Src)
  /-- `SET (src).b` (R353): source prefix, 11000bbb -/
  | setSrcB (m : Src) (b : BitVec 3)
  /-- `CLR (src).b` (R356): source prefix, 11001bbb -/
  | clrSrcB (m : Src) (b : BitVec 3)
  /-- `XCH rr,(src)` (R173): source prefix, 11011rrr -/
  | xchRrSrc (rr : Reg16) (m : Src)
  /-- `CPL (src).b` (R359): source prefix, 11100bbb -/
  | cplSrcB (m : Src) (b : BitVec 3)
  /-- `LD (src).b,CF` (R375): source prefix, 11101bbb -/
  | ldSrcBCf (m : Src) (b : BitVec 3)
  /-- `INC (src)` (R287): source prefix, 11110000 -/
  | incSrc (m : Src)
  /-- `SET (src).A` (R355): source prefix, 11110010 -/
  | setSrcA (m : Src)
  /-- `LD (src).A,CF` (R376): source prefix, 11110011 -/
  | ldSrcACf (m : Src)
  /-- `ROLD A,(src)` (R339): source prefix, 11110110 -/
  | rold (m : Src)
  /-- `RORD A,(src)` (R340): source prefix, 11110111 -/
  | rord (m : Src)
  /-- `DEC (src)` (R290): source prefix, 11111000 -/
  | decSrc (m : Src)
  /-- `LD (dst),n` (R147): destination prefix, 11111001 nnnnnnnn -/
  | ldDstN (m : Dst) (n : Byte)
  /-- `CLR (src).A` (R358): source prefix, 11111010 -/
  | clrSrcA (m : Src)
  /-- `CPL (src).A` (R361): source prefix, 11111011 -/
  | cplSrcA (m : Src)
  /-- `LD CF,(src).A` (R372): source prefix, 11111100 -/
  | ldCfSrcA (m : Src)
  /-- `CALL (src)` (R435): source prefix, 11111101 -/
  | callSrc (m : Src)
  /-- `JP (src)` (R422): source prefix, 11111110 -/
  | jpSrc (m : Src)
  deriving DecidableEq, Repr

end Sys2Proof
end

