-- ==== Sys2Proof/Machine/Ops.lean ====
section
/-! DEFINITION. The shared operations over registers, flags and memory, the stack, IMF, and the one
operation that enters a handler, with the return from it beside it. An operation that touches memory
takes what follows it as a last argument, since the access may stop the run (20_memory.md R59). -/

namespace Sys2Proof.Machine

/-! ## Registers -/

/-- The content of an 8-bit register (10_state.md R21). -/
def Regs.get8 (g : Regs) : Reg8 → Byte
  | .a => g.a
  | .w => g.w
  | .c => g.c
  | .b => g.b
  | .e => g.e
  | .d => g.d
  | .l => g.l
  | .h => g.h

/-- An 8-bit register written (10_state.md R21). -/
def Regs.put8 (g : Regs) (r : Reg8) (v : Byte) : Regs :=
  match r with
  | .a => { g with a := v }
  | .w => { g with w := v }
  | .c => { g with c := v }
  | .b => { g with b := v }
  | .e => { g with e := v }
  | .d => { g with d := v }
  | .l => { g with l := v }
  | .h => { g with h := v }

/-- The content of a 16-bit register: a pair is its first register ++ its second (10_state.md R22,
R23). -/
def Regs.get16 (g : Regs) : Reg16 → Word
  | .wa => mkWord g.w g.a
  | .bc => mkWord g.b g.c
  | .de => mkWord g.d g.e
  | .hl => mkWord g.h g.l
  | .ix => g.ix
  | .iy => g.iy
  | .sp => g.sp
  | .hl7 => mkWord g.h g.l

/-- A 16-bit register written: a pair writes both halves (10_state.md R22, R23). -/
def Regs.put16 (g : Regs) (rr : Reg16) (v : Word) : Regs :=
  match rr with
  | .wa => { g with w := hiByte v, a := loByte v }
  | .bc => { g with b := hiByte v, c := loByte v }
  | .de => { g with d := hiByte v, e := loByte v }
  | .hl => { g with h := hiByte v, l := loByte v }
  | .ix => { g with ix := v }
  | .iy => { g with iy := v }
  | .sp => { g with sp := v }
  | .hl7 => { g with h := hiByte v, l := loByte v }

/-- The 16-bit register a pair is (30_encoding.md R84). -/
def pairReg : Pair → Reg16
  | .wa => .wa
  | .bc => .bc
  | .de => .de
  | .hl => .hl

/-- The content of an 8-bit register. -/
def State.get8 (s : State) (r : Reg8) : Byte := s.regs.get8 r

/-- An 8-bit register written. -/
def State.put8 (s : State) (r : Reg8) (v : Byte) : State := { s with regs := s.regs.put8 r v }

/-- The content of a 16-bit register. -/
def State.get16 (s : State) (rr : Reg16) : Word := s.regs.get16 rr

/-- A 16-bit register written. -/
def State.put16 (s : State) (rr : Reg16) (v : Word) : State :=
  { s with regs := s.regs.put16 rr v }

/-- SP. -/
def State.sp (s : State) : Word := s.regs.sp

/-- SP written (10_state.md R25). -/
def State.putSp (s : State) (v : Word) : State := { s with regs := { s.regs with sp := v } }

/-- PC written: `pc <- target` (00_scope.md R11). -/
def State.putPc (s : State) (v : Word) : State := { s with pc := v }

/-- `pc <- $ + len`, modulo 65536 (10_state.md R26, R28). -/
def State.advance (s : State) (len : Nat) : State := s.putPc (s.pc + BitVec.ofNat 16 len)

/-! ## Flags -/

/-- The flags written. -/
def State.putPsw (s : State) (p : Psw) : State := { s with psw := p }

/-- JF written, the other flags unchanged. -/
def State.putJf (s : State) (v : Bool) : State := s.putPsw { s.psw with jf := v }

/-- JF and ZF written, the other flags unchanged. -/
def State.putJfZf (s : State) (j z : Bool) : State := s.putPsw { s.psw with jf := j, zf := z }

/-- The byte image of PSW with the given bits 1 and 0 (10_state.md R29, R30). -/
def pswImage (p : Psw) (low : BitVec 2) : Byte :=
  BitVec.ofBool p.jf ++ BitVec.ofBool p.zf ++ BitVec.ofBool p.cf ++ BitVec.ofBool p.hf
    ++ BitVec.ofBool p.sf ++ BitVec.ofBool p.vf ++ low

/-- The flags of a byte image: bits 7 to 2; bits 1 and 0 reach no flag (10_state.md R29, R30). -/
def pswOfByte (t : Byte) : Psw where
  jf := t.getLsbD 7
  zf := t.getLsbD 6
  cf := t.getLsbD 5
  hf := t.getLsbD 4
  sf := t.getLsbD 3
  vf := t.getLsbD 2

/-! ## Free values -/

/-- n more free values have been drawn (00_scope.md R11 `draw`; log 16). -/
def State.drew (s : State) (n : Nat) : State := { s with draws := s.draws + n }

/-! ## Memory -/

/-- What stands behind an address: the first range that holds it, else `ram`
(20_memory.md R59; log 5). -/
def kindIn : List Region → Word → RegionKind
  | [], _ => .ram
  | g :: gs, a => if g.first ≤ a ∧ a ≤ g.last then g.kind else kindIn gs a

/-- What stands behind an address. -/
def State.kindAt (s : State) (a : Word) : RegionKind := kindIn s.regions a

/-- The byte of memory at an address, as data; an instruction reads it through `loadByte`. -/
def State.byteAt (s : State) (a : Word) : Byte := s.mem.get a.toNat

/-- The byte of memory at an address replaced; an instruction writes it through `storeByte`. -/
def State.setByte (s : State) (a : Word) (v : Byte) : State :=
  { s with mem := s.mem.set a.toNat v }

/-- A host event of a device access recorded (20_memory.md R59). -/
def State.logDevice (s : State) (ev : DeviceEvent) : State :=
  { s with deviceLog := ev :: s.deviceLog }

/-- What the device gives for a read of an address now (20_memory.md R59; log 6). -/
def State.deviceByte (s : State) (a : Word) : Byte := Config.deviceRead s.deviceLog a

/-- `MemRead(addr, 1)` (00_scope.md R11, 20_memory.md R59), then k. -/
def loadByte (a : Word) (s : State) (k : Byte → State → Result) : Result :=
  match s.kindAt a with
  | .ram => k (s.byteAt a) s
  | .rom => k (s.byteAt a) s
  | .device => k (s.deviceByte a) (s.logDevice (.read a (s.deviceByte a)))
  | .absent => .fault (.absentMemory a)

/-- `MemWrite(addr, 1, v)` (00_scope.md R11, 20_memory.md R59), then k: a store to `rom` is
dropped. -/
def storeByte (a : Word) (v : Byte) (s : State) (k : State → Result) : Result :=
  match s.kindAt a with
  | .ram => k (s.setByte a v)
  | .rom => k s
  | .device => k (s.logDevice (.write a v))
  | .absent => .fault (.absentMemory a)

/-- `MemRead(addr, 2)`, the byte at addr low, the byte at addr+1 modulo 65536 high, low first
(20_memory.md R52, R56, R57), then k. -/
def loadWord (a : Word) (s : State) (k : Word → State → Result) : Result :=
  loadByte a s fun lo s => loadByte (a + 1) s fun hi s => k (mkWord hi lo) s

/-- `MemWrite(addr, 2, v)`, low byte first (20_memory.md R52, R56, R57), then k. -/
def storeWord (a : Word) (v : Word) (s : State) (k : State → Result) : Result :=
  storeByte a (loByte v) s fun s => storeByte (a + 1) (hiByte v) s k

/-! ## The stack -/

/-- `push16(v)` (46 R430, 20_memory.md R54), then k: the high byte at SP, the low byte at SP-1, in
that order, and SP less 2. -/
def push16 (v : Word) (s : State) (k : State → Result) : Result :=
  storeByte s.sp (hiByte v) s fun s =>
  storeByte (s.sp - 1) (loByte v) s fun s =>
  k (s.putSp (s.sp - 2))

/-- `pop16()` (46 R430, 20_memory.md R54), then k: SP plus 2, the high byte from SP, the low byte
from SP-1; the low byte is read first (20_memory.md R57; log 20). -/
def pop16 (s : State) (k : Word → State → Result) : Result :=
  let s := s.putSp (s.sp + 2)
  loadByte (s.sp - 1) s fun lo s => loadByte s.sp s fun hi s => k (mkWord hi lo) s

/-! ## IMF -/

/-- The address whose bit 0 is IMF (10_state.md R36). -/
def imfAddress : Word := 0x003A

/-- IMF as data: bit 0 of the byte at 003AH (10_state.md R36). -/
def State.imf (s : State) : Bool := bitOf (s.byteAt imfAddress) 0

/-- IMF read: bit 0 of `MemRead(003AH, 1)` (10_state.md R36; log 21), then k. -/
def loadImf (s : State) (k : Bool → State → Result) : Result :=
  loadByte imfAddress s fun v s => k (bitOf v 0) s

/-- `IMF <- v`: a read-modify-write of the byte at 003AH changing bit 0 only (10_state.md R36;
log 21), then k. -/
def storeImf (c : Bool) (s : State) (k : State → Result) : Result :=
  loadByte imfAddress s fun v s => storeByte imfAddress (bitPut v 0 c) s k

/-! ## Entering a handler and returning from it -/

/-- The address of the word that holds SWI's handler address (20_memory.md R60, 46 R443). -/
def swiVector : Word := 0xFFFC

/-- The one entry into a handler, of SWI (46 R443) and of an accepted interrupt
(60_exceptions.md R462): the PSW byte with IMF in bit 0 goes to SP, the return address ra below it,
SP less 3, IMF cleared, PC loaded from the vector word. The flags do not change. Bit 1 of the stored
byte is a free value (10_state.md R30; log 13). -/
def enterHandler (ra vector : Word) (s : State) : Result :=
  loadImf s fun imf s =>
  storeByte s.sp (bitPut (pswImage s.psw (Config.pswLowBits s.draws)) 0 imf) (s.drew 1) fun s =>
  storeByte (s.sp - 1) (hiByte ra) s fun s =>
  storeByte (s.sp - 2) (loByte ra) s fun s =>
  storeImf false (s.putSp (s.sp - 3)) fun s =>
  loadWord vector s fun t s =>
  .next (s.putPc t)

/-- The return from a handler, of RETI and RETN (46 R441, R442): PC from SP+1 and SP+2, the flags
from bits 7 to 2 and IMF from bit 0 of the byte at SP+3, SP plus 3. The three bytes are read before
IMF is written. -/
def returnFromHandler (s : State) : Result :=
  loadWord (s.sp + 1) s fun ra s =>
  loadByte (s.sp + 3) s fun t s =>
  storeImf (bitOf t 0) ((s.putPsw (pswOfByte t)).putSp (s.sp + 3)) fun s =>
  .next (s.putPc ra)

end Sys2Proof.Machine
end

