-- ==== Sys2Proof/Machine/Operands.lean ====
section
/-! DEFINITION. The memory operand forms (30_encoding.md R83, R86 to R94; 40_transfer_exchange.md
R130) and the lengths of the instructions that have one (R102). `$` is State's pc while an
instruction executes (10_state.md R27). -/

namespace Sys2Proof.Machine

/-- The length of an instruction with a source operand: the prefix, its operand bytes, the second
opcode, and extra operand bytes (30_encoding.md R83, R102). -/
def srcLen (m : Src) (extra : Nat) : Nat :=
  match m with
  | .dir8 _ => 3 + extra
  | .dir16 _ => 4 + extra
  | .de => 2 + extra
  | .hl => 2 + extra
  | .ix => 2 + extra
  | .iy => 2 + extra
  | .incSp => 2 + extra
  | .hlC => 2 + extra
  | .ixD _ => 3 + extra
  | .iyD _ => 3 + extra
  | .spD _ => 3 + extra
  | .hlD _ => 3 + extra
  | .pcA => 2 + extra

/-- The length of an instruction with a destination operand (30_encoding.md R83, R102). -/
def dstLen (m : Dst) (extra : Nat) : Nat :=
  match m with
  | .dir8 _ => 3 + extra
  | .dir16 _ => 4 + extra
  | .de => 2 + extra
  | .hl => 2 + extra
  | .ix => 2 + extra
  | .iy => 2 + extra
  | .spDec => 2 + extra
  | .hlC => 2 + extra
  | .ixD _ => 3 + extra
  | .iyD _ => 3 + extra
  | .spD _ => 3 + extra
  | .hlD _ => 3 + extra

/-- The effective address of a source operand, from the registers at the start of the instruction;
`(+SP)` is SP after its increment, `(PC+A)` counts from `$ + 2` (30_encoding.md R86 to R94). -/
def srcAddr (m : Src) (s : State) : Word :=
  match m with
  | .dir8 x => zext16 x
  | .dir16 vw => vw
  | .de => s.get16 .de
  | .hl => s.get16 .hl
  | .ix => s.regs.ix
  | .iy => s.regs.iy
  | .incSp => s.sp + 1
  | .hlC => s.get16 .hl + sext16 s.regs.c
  | .ixD d => s.regs.ix + sext16 d
  | .iyD d => s.regs.iy + sext16 d
  | .spD d => s.sp + sext16 d
  | .hlD d => s.get16 .hl + sext16 d
  | .pcA => s.pc + 2 + sext16 s.regs.a

/-- The state once a source operand's address is formed: `(+SP)` has moved SP up by 1, once, and no
flag changes (30_encoding.md R89). -/
def srcBegin (m : Src) (s : State) : State :=
  match m with
  | .dir8 _ => s
  | .dir16 _ => s
  | .de => s
  | .hl => s
  | .ix => s
  | .iy => s
  | .incSp => s.putSp (s.sp + 1)
  | .hlC => s
  | .ixD _ => s
  | .iyD _ => s
  | .spD _ => s
  | .hlD _ => s
  | .pcA => s

/-- The effective address of a destination operand, from the registers at the start of the
instruction (30_encoding.md R86 to R94). -/
def dstAddr (m : Dst) (s : State) : Word :=
  match m with
  | .dir8 x => zext16 x
  | .dir16 vw => vw
  | .de => s.get16 .de
  | .hl => s.get16 .hl
  | .ix => s.regs.ix
  | .iy => s.regs.iy
  | .spDec => s.sp
  | .hlC => s.get16 .hl + sext16 s.regs.c
  | .ixD d => s.regs.ix + sext16 d
  | .iyD d => s.regs.iy + sext16 d
  | .spD d => s.sp + sext16 d
  | .hlD d => s.get16 .hl + sext16 d

/-- The state once the datum is stored: `(SP-)` moves SP down by 1, once, and no flag changes
(30_encoding.md R90). -/
def dstEnd (m : Dst) (s : State) : State :=
  match m with
  | .dir8 _ => s
  | .dir16 _ => s
  | .de => s
  | .hl => s
  | .ix => s
  | .iy => s
  | .spDec => s.putSp (s.sp - 1)
  | .hlC => s
  | .ixD _ => s
  | .iyD _ => s
  | .spD _ => s
  | .hlD _ => s

/-- The byte of a source operand, then k. -/
def withSrcByte (m : Src) (s : State) (k : Byte → State → Result) : Result :=
  loadByte (srcAddr m s) (srcBegin m s) k

/-- The word of a source operand, then k. -/
def withSrcWord (m : Src) (s : State) (k : Word → State → Result) : Result :=
  loadWord (srcAddr m s) (srcBegin m s) k

/-- A byte stored to a destination operand, then k on the state after any `(SP-)` decrement. -/
def toDstByte (m : Dst) (v : Byte) (s : State) (k : State → Result) : Result :=
  storeByte (dstAddr m s) v s fun s => k (dstEnd m s)

/-- A word stored to a destination operand, then k on the state after any `(SP-)` decrement. -/
def toDstWord (m : Dst) (v : Word) (s : State) (k : State → Result) : Result :=
  storeWord (dstAddr m s) v s fun s => k (dstEnd m s)

/-- One read, then one write, of the byte of a source operand: f of the byte read is written back at
the same address; then k on the byte read (20_memory.md R58). -/
def updateSrcByte (m : Src) (f : Byte → Byte) (s : State) (k : Byte → State → Result) : Result :=
  loadByte (srcAddr m s) (srcBegin m s) fun v t => storeByte (srcAddr m s) (f v) t (k v)

/-- Two reads, then two writes, of the word of a source operand: v is written; then k on the word
read (20_memory.md R58). -/
def exchangeSrcWord (m : Src) (v : State → Word) (s : State) (k : Word → State → Result) : Result :=
  loadWord (srcAddr m s) (srcBegin m s) fun old t => storeWord (srcAddr m s) (v t) t (k old)

/-- The bit number of the `.A` forms: `A & 7` at the start of the instruction (44 R350 (1)). -/
def bitNumberA (s : State) : BitVec 3 := s.regs.a.extractLsb' 0 3

end Sys2Proof.Machine
end

