-- ==== Sys2Proof/Machine/Alu.lean ====
section
/-! DEFINITION. The operand shapes of the eight ALU operations (41 R202, 42 R260). -/

namespace Sys2Proof.Machine

/-- The register after an ALU operation: CMP discards its result (41 R205). -/
def aluKeep8 (op : AluOp) (r : Reg8) (v : Byte) (s : State) : State :=
  if op = .cmp then s else s.put8 r v

/-- The register after a 16-bit ALU operation: CMP discards its result (41 R207). -/
def aluKeep16 (op : AluOp) (rr : Reg16) (v : Word) (s : State) : State :=
  if op = .cmp then s else s.put16 rr v

/-- An 8-bit ALU operation of a register and a byte b. -/
def aluReg8 (op : AluOp) (r : Reg8) (b : Byte) (len : Nat) (s : State) : Result :=
  let out := alu8 op (s.get8 r) b s.psw
  .next (((aluKeep8 op r out.1 s).putPsw out.2).advance len)

/-- A 16-bit ALU operation of a register and a word b; HF is a free value after arithmetic and
comparison (10_state.md R34; log 12). -/
def aluReg16 (op : AluOp) (rr : Reg16) (b : Word) (len : Nat) (s : State) : Result :=
  let out := alu16 op (s.get16 rr) b s.psw (Config.undefFlagValue s.draws)
  .next ((((aluKeep16 op rr out.1 s).putPsw out.2).drew (aluDraws op)).advance len)

/-- An 8-bit ALU operation of a memory byte and n: the byte is the first operand and is read once;
CMP writes nothing, the others write it back once (41 R211, R219; 20_memory.md R58). -/
def aluSrc8 (op : AluOp) (m : Src) (n : Byte) (len : Nat) (s : State) : Result :=
  if op = .cmp then
    withSrcByte m s fun v s => .next ((s.putPsw (alu8 op v n s.psw).2).advance len)
  else
    updateSrcByte m (fun v => (alu8 op v n s.psw).1) s fun v s =>
      .next ((s.putPsw (alu8 op v n s.psw).2).advance len)

end Sys2Proof.Machine
end

