-- ==== Sys2Proof/Machine/Arith.lean ====
section
/-! DEFINITION. Compare, add and subtract: CMP, ADD, ADDC, SUB, SUBB (41_compare_add_sub.md). -/

namespace Sys2Proof.Machine

/-! ## CMP -/

/-- `CMP A,n` (R205). -/
def execCmpAN (n : Byte) (s : State) : Result := aluReg8 .cmp .a n 2 s

/-- `CMP g,n` (R206). -/
def execCmpGN (g : Reg8) (n : Byte) (s : State) : Result := aluReg8 .cmp g n 3 s

/-- `CMP gg,mn` (R207). -/
def execCmpGgMn (gg : Reg16) (mn : Word) (s : State) : Result := aluReg16 .cmp gg mn 4 s

/-- `CMP r,g` (R208). -/
def execCmpRG (r g : Reg8) (s : State) : Result := aluReg8 .cmp r (s.get8 g) 2 s

/-- `CMP rr,gg` (R209). -/
def execCmpRrGg (rr gg : Reg16) (s : State) : Result := aluReg16 .cmp rr (s.get16 gg) 2 s

/-- `CMP r,(src)` (R210). -/
def execCmpRSrc (r : Reg8) (m : Src) (s : State) : Result :=
  withSrcByte m s fun v s => aluReg8 .cmp r v (srcLen m 0) s

/-- `CMP (x),n`, the one-byte-opcode form (R211). -/
def execCmpXN (x n : Byte) (s : State) : Result := aluSrc8 .cmp (.dir8 x) n 3 s

/-- `CMP (src),n` (R211). -/
def execCmpSrcN (m : Src) (n : Byte) (s : State) : Result := aluSrc8 .cmp m n (srcLen m 1) s

/-- `CMP rr,(src)` (R212). -/
def execCmpRrSrc (rr : Reg16) (m : Src) (s : State) : Result :=
  withSrcWord m s fun v s => aluReg16 .cmp rr v (srcLen m 0) s

/-! ## ADD -/

/-- `ADD A,n` (R213). -/
def execAddAN (n : Byte) (s : State) : Result := aluReg8 .add .a n 2 s

/-- `ADD g,n` (R214). -/
def execAddGN (g : Reg8) (n : Byte) (s : State) : Result := aluReg8 .add g n 3 s

/-- `ADD gg,mn` (R215). -/
def execAddGgMn (gg : Reg16) (mn : Word) (s : State) : Result := aluReg16 .add gg mn 4 s

/-- `ADD r,g` (R216). -/
def execAddRG (r g : Reg8) (s : State) : Result := aluReg8 .add r (s.get8 g) 2 s

/-- `ADD rr,gg` (R217). -/
def execAddRrGg (rr gg : Reg16) (s : State) : Result := aluReg16 .add rr (s.get16 gg) 2 s

/-- `ADD r,(src)` (R218). -/
def execAddRSrc (r : Reg8) (m : Src) (s : State) : Result :=
  withSrcByte m s fun v s => aluReg8 .add r v (srcLen m 0) s

/-- `ADD (src),n` (R219). -/
def execAddSrcN (m : Src) (n : Byte) (s : State) : Result := aluSrc8 .add m n (srcLen m 1) s

/-- `ADD rr,(src)` (R220). -/
def execAddRrSrc (rr : Reg16) (m : Src) (s : State) : Result :=
  withSrcWord m s fun v s => aluReg16 .add rr v (srcLen m 0) s

/-! ## ADDC -/

/-- `ADDC A,n` (R221). -/
def execAddcAN (n : Byte) (s : State) : Result := aluReg8 .addc .a n 2 s

/-- `ADDC g,n` (R222). -/
def execAddcGN (g : Reg8) (n : Byte) (s : State) : Result := aluReg8 .addc g n 3 s

/-- `ADDC gg,mn` (R223). -/
def execAddcGgMn (gg : Reg16) (mn : Word) (s : State) : Result := aluReg16 .addc gg mn 4 s

/-- `ADDC r,g` (R224). -/
def execAddcRG (r g : Reg8) (s : State) : Result := aluReg8 .addc r (s.get8 g) 2 s

/-- `ADDC rr,gg` (R225). -/
def execAddcRrGg (rr gg : Reg16) (s : State) : Result := aluReg16 .addc rr (s.get16 gg) 2 s

/-- `ADDC r,(src)` (R226). -/
def execAddcRSrc (r : Reg8) (m : Src) (s : State) : Result :=
  withSrcByte m s fun v s => aluReg8 .addc r v (srcLen m 0) s

/-- `ADDC (src),n` (R227). -/
def execAddcSrcN (m : Src) (n : Byte) (s : State) : Result := aluSrc8 .addc m n (srcLen m 1) s

/-- `ADDC rr,(src)` (R228). -/
def execAddcRrSrc (rr : Reg16) (m : Src) (s : State) : Result :=
  withSrcWord m s fun v s => aluReg16 .addc rr v (srcLen m 0) s

/-! ## SUB -/

/-- `SUB A,n` (R229). -/
def execSubAN (n : Byte) (s : State) : Result := aluReg8 .sub .a n 2 s

/-- `SUB g,n` (R230). -/
def execSubGN (g : Reg8) (n : Byte) (s : State) : Result := aluReg8 .sub g n 3 s

/-- `SUB gg,mn` (R231). -/
def execSubGgMn (gg : Reg16) (mn : Word) (s : State) : Result := aluReg16 .sub gg mn 4 s

/-- `SUB r,g` (R232). -/
def execSubRG (r g : Reg8) (s : State) : Result := aluReg8 .sub r (s.get8 g) 2 s

/-- `SUB rr,gg` (R233). -/
def execSubRrGg (rr gg : Reg16) (s : State) : Result := aluReg16 .sub rr (s.get16 gg) 2 s

/-- `SUB r,(src)` (R234). -/
def execSubRSrc (r : Reg8) (m : Src) (s : State) : Result :=
  withSrcByte m s fun v s => aluReg8 .sub r v (srcLen m 0) s

/-- `SUB (src),n` (R235). -/
def execSubSrcN (m : Src) (n : Byte) (s : State) : Result := aluSrc8 .sub m n (srcLen m 1) s

/-- `SUB rr,(src)` (R236). -/
def execSubRrSrc (rr : Reg16) (m : Src) (s : State) : Result :=
  withSrcWord m s fun v s => aluReg16 .sub rr v (srcLen m 0) s

/-! ## SUBB -/

/-- `SUBB A,n` (R237). -/
def execSubbAN (n : Byte) (s : State) : Result := aluReg8 .subb .a n 2 s

/-- `SUBB g,n` (R238). -/
def execSubbGN (g : Reg8) (n : Byte) (s : State) : Result := aluReg8 .subb g n 3 s

/-- `SUBB gg,mn` (R239). -/
def execSubbGgMn (gg : Reg16) (mn : Word) (s : State) : Result := aluReg16 .subb gg mn 4 s

/-- `SUBB r,g` (R240). -/
def execSubbRG (r g : Reg8) (s : State) : Result := aluReg8 .subb r (s.get8 g) 2 s

/-- `SUBB rr,gg` (R241). -/
def execSubbRrGg (rr gg : Reg16) (s : State) : Result := aluReg16 .subb rr (s.get16 gg) 2 s

/-- `SUBB r,(src)` (R242). -/
def execSubbRSrc (r : Reg8) (m : Src) (s : State) : Result :=
  withSrcByte m s fun v s => aluReg8 .subb r v (srcLen m 0) s

/-- `SUBB (src),n` (R243). -/
def execSubbSrcN (m : Src) (n : Byte) (s : State) : Result := aluSrc8 .subb m n (srcLen m 1) s

/-- `SUBB rr,(src)` (R244). -/
def execSubbRrSrc (rr : Reg16) (m : Src) (s : State) : Result :=
  withSrcWord m s fun v s => aluReg16 .subb rr v (srcLen m 0) s

end Sys2Proof.Machine
end

