-- ==== Sys2Proof/Machine/Transfer.lean ====
section
/-! DEFINITION. Transfer and exchange: LD, LDW, PUSH, POP, XCH (40_transfer_exchange.md). -/

namespace Sys2Proof.Machine

/-! ## Shared operations -/

/-- A byte arrives in an 8-bit register: JF is 1, ZF says whether it is 00H (R130 (5)). -/
def loadedReg8 (r : Reg8) (v : Byte) (len : Nat) (s : State) : Result :=
  .next (((s.put8 r v).putJfZf true (v == 0)).advance len)

/-- A word arrives in a 16-bit register: JF is 1, the other flags stay. -/
def loadedReg16 (rr : Reg16) (v : Word) (len : Nat) (s : State) : Result :=
  .next (((s.put16 rr v).putJf true).advance len)

/-- The end of a store or of any transfer that writes JF alone: JF is 1. -/
def transferred (len : Nat) (s : State) : Result := .next ((s.putJf true).advance len)

/-- A 16-bit register pushed (R160, R161); no flag changes. SP itself is stored as it was before
(R174). -/
def pushReg16 (rr : Reg16) (len : Nat) (s : State) : Result :=
  push16 (s.get16 rr) s fun s => .next (s.advance len)

/-- A 16-bit register popped (R162, R163); no flag changes. SP itself ends as the word loaded
(R174). -/
def popReg16 (rr : Reg16) (len : Nat) (s : State) : Result :=
  pop16 s fun v s => .next ((s.put16 rr v).advance len)

/-! ## 8-bit and 16-bit register loads -/

/-- `LD A,r` (R131). -/
def execLdAR (r : Reg8) (s : State) : Result := loadedReg8 .a (s.get8 r) 1 s

/-- `LD r,A` (R132). -/
def execLdRA (r : Reg8) (s : State) : Result := loadedReg8 r (s.get8 .a) 1 s

/-- `LD r,g` (R133). -/
def execLdRG (r g : Reg8) (s : State) : Result := loadedReg8 r (s.get8 g) 2 s

/-- `LD rr,gg` (R134). -/
def execLdRrGg (rr gg : Reg16) (s : State) : Result := loadedReg16 rr (s.get16 gg) 2 s

/-- `LD A,(x)` (R135). -/
def execLdAX (x : Byte) (s : State) : Result :=
  loadByte (zext16 x) s fun v s => loadedReg8 .a v 2 s

/-- `LD A,(HL)` (R136). -/
def execLdAHl (s : State) : Result :=
  loadByte (s.get16 .hl) s fun v s => loadedReg8 .a v 1 s

/-- `LD r,(src)` (R137). -/
def execLdRSrc (r : Reg8) (m : Src) (s : State) : Result :=
  withSrcByte m s fun v s => loadedReg8 r v (srcLen m 0) s

/-- `LD rr,(src)` (R138). -/
def execLdRrSrc (rr : Reg16) (m : Src) (s : State) : Result :=
  withSrcWord m s fun v s => loadedReg16 rr v (srcLen m 0) s

/-! ## Stores -/

/-- `LD (x),A` (R139). -/
def execLdXA (x : Byte) (s : State) : Result := storeByte (zext16 x) s.regs.a s (transferred 2)

/-- `LD (HL),A` (R140). -/
def execLdHlA (s : State) : Result := storeByte (s.get16 .hl) s.regs.a s (transferred 1)

/-- `LD (dst),r` (R141). -/
def execLdDstR (m : Dst) (r : Reg8) (s : State) : Result :=
  toDstByte m (s.get8 r) s (transferred (dstLen m 0))

/-- `LD (dst),rr` (R142). -/
def execLdDstRr (m : Dst) (rr : Reg16) (s : State) : Result :=
  toDstWord m (s.get16 rr) s (transferred (dstLen m 0))

/-! ## Immediate loads and stores -/

/-- `LD r,n` (R143): ZF is not set from n. -/
def execLdRN (r : Reg8) (n : Byte) (s : State) : Result := transferred 2 (s.put8 r n)

/-- `LD rr,mn` (R144). -/
def execLdRrMn (rr : Reg16) (mn : Word) (s : State) : Result := loadedReg16 rr mn 3 s

/-- `LD (x),n` (R145). -/
def execLdXN (x n : Byte) (s : State) : Result := storeByte (zext16 x) n s (transferred 3)

/-- `LD (HL),n` (R146). -/
def execLdHlN (n : Byte) (s : State) : Result := storeByte (s.get16 .hl) n s (transferred 2)

/-- `LD (dst),n` (R147). -/
def execLdDstN (m : Dst) (n : Byte) (s : State) : Result :=
  toDstByte m n s (transferred (dstLen m 1))

/-- `LDW (x),mn` (R148). -/
def execLdwXMn (x : Byte) (mn : Word) (s : State) : Result :=
  storeWord (zext16 x) mn s (transferred 4)

/-- `LDW (HL),mn` (R149). -/
def execLdwHlMn (mn : Word) (s : State) : Result :=
  storeWord (s.get16 .hl) mn s (transferred 3)

/-! ## Stack instructions -/

/-- `PUSH rr` (R160). -/
def execPushRr (p : Pair) (s : State) : Result := pushReg16 (pairReg p) 1 s

/-- `PUSH gg` (R161). -/
def execPushGg (gg : Reg16) (s : State) : Result := pushReg16 gg 2 s

/-- `POP rr` (R162). -/
def execPopRr (p : Pair) (s : State) : Result := popReg16 (pairReg p) 1 s

/-- `POP gg` (R163). -/
def execPopGg (gg : Reg16) (s : State) : Result := popReg16 gg 2 s

/-- `PUSH PSW` (R164): bits 1 and 0 of the byte are a free value (10_state.md R30; log 13). -/
def execPushPsw (s : State) : Result :=
  storeByte s.sp (pswImage s.psw (Config.pswLowBits s.draws)) (s.drew 1) fun s =>
  .next ((s.putSp (s.sp - 1)).advance 2)

/-- `POP PSW` (R165): IMF is not changed. -/
def execPopPsw (s : State) : Result :=
  let s := s.putSp (s.sp + 1)
  loadByte s.sp s fun t s => .next ((s.putPsw (pswOfByte t)).advance 2)

/-- `LD PSW,n` (R166): JF takes bit 7 of n. -/
def execLdPswN (n : Byte) (s : State) : Result := .next ((s.putPsw (pswOfByte n)).advance 3)

/-- `LD SP,SP+d` (R167): d is unsigned. -/
def execLdSpPlusD (d : Byte) (s : State) : Result := transferred 2 (s.putSp (s.sp + zext16 d))

/-- `LD SP,SP-d` (R168): d is unsigned. -/
def execLdSpMinusD (d : Byte) (s : State) : Result := transferred 2 (s.putSp (s.sp - zext16 d))

/-! ## Exchanges -/

/-- `XCH r,g` (R170): ZF says whether the byte that arrives in r is 00H. -/
def execXchRG (r g : Reg8) (s : State) : Result :=
  loadedReg8 r (s.get8 g) 2 (s.put8 g (s.get8 r))

/-- `XCH rr,gg` (R171): ZF is unchanged. -/
def execXchRrGg (rr gg : Reg16) (s : State) : Result :=
  loadedReg16 rr (s.get16 gg) 2 (s.put16 gg (s.get16 rr))

/-- `XCH r,(src)` (R172). -/
def execXchRSrc (r : Reg8) (m : Src) (s : State) : Result :=
  updateSrcByte m (fun _ => s.get8 r) s fun v s => loadedReg8 r v (srcLen m 0) s

/-- `XCH rr,(src)` (R173): with `(+SP)`, SP is incremented before it is exchanged (R174). -/
def execXchRrSrc (rr : Reg16) (m : Src) (s : State) : Result :=
  exchangeSrcWord m (fun s => s.get16 rr) s fun v s => loadedReg16 rr v (srcLen m 0) s

end Sys2Proof.Machine
end

