-- ==== Sys2Proof/Machine/BitFlag.lean ====
section
/-! DEFINITION. Bit manipulation and flag instructions: SET, CLR, CPL, LD CF (TEST), LD bit,CF,
XOR CF, SET CF, CLR CF, CPL CF, EI, DI (44_bit_flag.md). -/

namespace Sys2Proof.Machine

/-! ## Shared operations -/

/-- The end of SET, CLR and CPL: ZF and JF are the inverse of the old bit (R353, R356, R359). -/
def bitTested (old : Bool) (len : Nat) (s : State) : Result :=
  .next ((s.putJfZf (!old) (!old)).advance len)

/-- SET, CLR or CPL of bit n of a register; f changes the bit. -/
def changeRegBit (f : Byte → BitVec 3 → Byte) (g : Reg8) (n : BitVec 3) (s : State) : Result :=
  bitTested (bitOf (s.get8 g) n) 2 (s.put8 g (f (s.get8 g) n))

/-- SET, CLR or CPL of bit n of a memory byte: the byte is written back whole even when the bit does
not change (R350 (4)). -/
def changeSrcBit (f : Byte → BitVec 3 → Byte) (m : Src) (n : BitVec 3) (len : Nat) (s : State) :
    Result :=
  updateSrcByte m (fun v => f v n) s fun v s => bitTested (bitOf v n) len s

/-- A new CF, and JF its inverse (R370, R377, R383). -/
def carryLoaded (c : Bool) (len : Nat) (s : State) : Result :=
  .next ((s.putPsw { s.psw with jf := !c, cf := c }).advance len)

/-- LD CF, TEST of bit n of a memory byte; memory is not written (R371, R372). -/
def testSrcBit (m : Src) (n : BitVec 3) (len : Nat) (s : State) : Result :=
  withSrcByte m s fun v s => carryLoaded (bitOf v n) len s

/-- LD of CF into bit n of a memory byte (R375, R376). -/
def putSrcBit (m : Src) (n : BitVec 3) (s : State) : Result :=
  updateSrcByte m (fun v => bitPut v n s.psw.cf) s fun _ s => transferred (srcLen m 0) s

/-! ## SET -/

/-- `SET (src).b` (R353). -/
def execSetSrcB (m : Src) (b : BitVec 3) (s : State) : Result :=
  changeSrcBit bitSet m b (srcLen m 0) s

/-- `SET (x).b`, the one-byte-opcode form (R353). -/
def execSetXB (b : BitVec 3) (x : Byte) (s : State) : Result :=
  changeSrcBit bitSet (.dir8 x) b 2 s

/-- `SET g.b` (R354). -/
def execSetGB (g : Reg8) (b : BitVec 3) (s : State) : Result := changeRegBit bitSet g b s

/-- `SET (src).A` (R355). -/
def execSetSrcA (m : Src) (s : State) : Result :=
  changeSrcBit bitSet m (bitNumberA s) (srcLen m 0) s

/-! ## CLR -/

/-- `CLR (src).b` (R356). -/
def execClrSrcB (m : Src) (b : BitVec 3) (s : State) : Result :=
  changeSrcBit bitClear m b (srcLen m 0) s

/-- `CLR (x).b`, the one-byte-opcode form (R356). -/
def execClrXB (b : BitVec 3) (x : Byte) (s : State) : Result :=
  changeSrcBit bitClear (.dir8 x) b 2 s

/-- `CLR g.b` (R357). -/
def execClrGB (g : Reg8) (b : BitVec 3) (s : State) : Result := changeRegBit bitClear g b s

/-- `CLR (src).A` (R358). -/
def execClrSrcA (m : Src) (s : State) : Result :=
  changeSrcBit bitClear m (bitNumberA s) (srcLen m 0) s

/-! ## CPL -/

/-- `CPL (src).b` (R359). -/
def execCplSrcB (m : Src) (b : BitVec 3) (s : State) : Result :=
  changeSrcBit bitFlip m b (srcLen m 0) s

/-- `CPL g.b` (R360). -/
def execCplGB (g : Reg8) (b : BitVec 3) (s : State) : Result := changeRegBit bitFlip g b s

/-- `CPL (src).A` (R361). -/
def execCplSrcA (m : Src) (s : State) : Result :=
  changeSrcBit bitFlip m (bitNumberA s) (srcLen m 0) s

/-! ## LD CF, also written TEST -/

/-- `LD CF,g.b` (R370). -/
def execLdCfGB (g : Reg8) (b : BitVec 3) (s : State) : Result :=
  carryLoaded (bitOf (s.get8 g) b) 2 s

/-- `LD CF,(src).b` (R371). -/
def execLdCfSrcB (m : Src) (b : BitVec 3) (s : State) : Result := testSrcBit m b (srcLen m 0) s

/-- `LD CF,(x).b`, the one-byte-opcode form (R371). -/
def execLdCfXB (b : BitVec 3) (x : Byte) (s : State) : Result := testSrcBit (.dir8 x) b 2 s

/-- `LD CF,(src).A` (R372). -/
def execLdCfSrcA (m : Src) (s : State) : Result := testSrcBit m (bitNumberA s) (srcLen m 0) s

/-! ## LD bit,CF -/

/-- `LD g.b,CF` (R374). -/
def execLdGBCf (g : Reg8) (b : BitVec 3) (s : State) : Result :=
  transferred 2 (s.put8 g (bitPut (s.get8 g) b s.psw.cf))

/-- `LD (src).b,CF` (R375). -/
def execLdSrcBCf (m : Src) (b : BitVec 3) (s : State) : Result := putSrcBit m b s

/-- `LD (src).A,CF` (R376). -/
def execLdSrcACf (m : Src) (s : State) : Result := putSrcBit m (bitNumberA s) s

/-! ## XOR CF -/

/-- `XOR CF,g.b` (R377). -/
def execXorCfGB (g : Reg8) (b : BitVec 3) (s : State) : Result :=
  carryLoaded (s.psw.cf ^^ bitOf (s.get8 g) b) 2 s

/-- `XOR CF,(src).b` (R378). -/
def execXorCfSrcB (m : Src) (b : BitVec 3) (s : State) : Result :=
  withSrcByte m s fun v s => carryLoaded (s.psw.cf ^^ bitOf v b) (srcLen m 0) s

/-! ## Carry flag instructions -/

/-- `SET CF` (R380): JF is 0. -/
def execSetCf (s : State) : Result := carryLoaded true 1 s

/-- `CLR CF` (R381): JF is 1. -/
def execClrCf (s : State) : Result := carryLoaded false 1 s

/-- `CPL CF` (R382): JF is the old CF. -/
def execCplCf (s : State) : Result := carryLoaded (!s.psw.cf) 1 s

/-! ## Interrupt master enable flag -/

/-- `EI` (R393): `SET (3AH).0` in effect and in encoding. -/
def execEi (s : State) : Result := changeSrcBit bitSet (.dir8 0x3A) 0 2 s

/-- `DI` (R392): `CLR (3AH).0` in effect and in encoding. -/
def execDi (s : State) : Result := changeSrcBit bitClear (.dir8 0x3A) 0 2 s

end Sys2Proof.Machine
end

