-- ==== Sys2Proof/Machine/CallRet.lean ====
section
/-! DEFINITION. Call, return, software interrupt, no-operation: CALLV, CALL, RET, RETI, RETN, SWI,
NOP (46_call_return_swi_nop.md). No flag changes but by RETI and RETN (R430). -/

namespace Sys2Proof.Machine

/-- A call: the address of the next instruction is pushed, then PC is the target (R430, R431). -/
def callTo (target : Word) (len : Nat) (s : State) : Result :=
  push16 (s.pc + BitVec.ofNat 16 len) s fun s => .next (s.putPc target)

/-- The address of CALLV's vector n (30_encoding.md R98, 20_memory.md R60). -/
def callVector (n : BitVec 4) : Word := 0xFFC0 + 2 * n.setWidth 16

/-- `CALLV n` (R432): the vector is read before the push. -/
def execCallv (n : BitVec 4) (s : State) : Result :=
  loadWord (callVector n) s fun t s => callTo t 1 s

/-- `CALL mn` (R433). -/
def execCallMn (mn : Word) (s : State) : Result := callTo mn 3 s

/-- `CALL gg` (R434): `CALL SP` jumps to SP as it was before the push. -/
def execCallGg (gg : Reg16) (s : State) : Result := callTo (s.get16 gg) 2 s

/-- `CALL (+SP)` (R436): the return address takes the place of the target's low byte and of the byte
below it, each target byte read before the stack byte over it is written; SP ends one below. -/
def callIncSp (s : State) : Result :=
  let sp := s.sp
  let ra := s.pc + 2
  storeByte sp (loByte ra) (s.putSp (sp + 1)) fun s =>
  loadByte (sp + 1) s fun pcl s =>
  storeByte (sp + 1) (hiByte ra) s fun s =>
  loadByte (sp + 2) s fun pch s =>
  .next ((s.putSp (sp - 1)).putPc (mkWord pch pcl))

/-- `CALL (src)` (R435, R436): the target word is read before the return address is pushed. -/
def execCallSrc (m : Src) (s : State) : Result :=
  if m = .incSp then callIncSp s
  else withSrcWord m s fun t s => callTo t (srcLen m 0) s

/-- `RET` (R440). -/
def execRet (s : State) : Result := pop16 s fun t s => .next (s.putPc t)

/-- `RETI` (R441). -/
def execReti (s : State) : Result := returnFromHandler s

/-- `RETN` (R442): RETI's operation. -/
def execRetn (s : State) : Result := returnFromHandler s

/-- `SWI` (R443): the return address is `$ + 1`. -/
def execSwi (s : State) : Result := enterHandler (s.pc + 1) swiVector s

/-- `NOP` (R444). -/
def execNop (s : State) : Result := .next (s.advance 1)

end Sys2Proof.Machine
end

