-- ==== Sys2Proof/Machine/Jump.lean ====
section
/-! DEFINITION. Jumps: JRS, JR, JP (45_jump.md). -/

namespace Sys2Proof.Machine

/-- A relative jump: taken, PC is `$` + base + d, else `$` + len; JF is 1 in both cases; no other
flag changes (R400; log 18). -/
def jumpRelative (taken : Bool) (base : Word) (d : Word) (len : Nat) (s : State) : Result :=
  .next ((if taken then s.putPc (s.pc + base + d) else s.advance len).putJf true)

/-! ## JRS: one byte, base `$ + 2` -/

/-- `JRS T,$+2+d` (R401). -/
def execJrsT (d : BitVec 5) (s : State) : Result := jumpRelative (condT s.psw) 2 (sext16of5 d) 1 s

/-- `JRS F,$+2+d` (R402). -/
def execJrsF (d : BitVec 5) (s : State) : Result := jumpRelative (condF s.psw) 2 (sext16of5 d) 1 s

/-! ## JR: two bytes, base `$ + 2` -/

/-- `JR T,$+2+d` (R403). -/
def execJrT (d : Byte) (s : State) : Result :=
  jumpRelative (condT s.psw) 2 (sext16 d) 2 s

/-- `JR F,$+2+d` (R404). -/
def execJrF (d : Byte) (s : State) : Result :=
  jumpRelative (condF s.psw) 2 (sext16 d) 2 s

/-- `JR Z,$+2+d` (R405). -/
def execJrZ (d : Byte) (s : State) : Result :=
  jumpRelative (condZ s.psw) 2 (sext16 d) 2 s

/-- `JR NZ,$+2+d` (R406). -/
def execJrNz (d : Byte) (s : State) : Result :=
  jumpRelative (condNz s.psw) 2 (sext16 d) 2 s

/-- `JR CS,$+2+d` (R407). -/
def execJrCs (d : Byte) (s : State) : Result :=
  jumpRelative (condCs s.psw) 2 (sext16 d) 2 s

/-- `JR CC,$+2+d` (R408). -/
def execJrCc (d : Byte) (s : State) : Result :=
  jumpRelative (condCc s.psw) 2 (sext16 d) 2 s

/-- `JR LE,$+2+d` (R409). -/
def execJrLe (d : Byte) (s : State) : Result :=
  jumpRelative (condLe s.psw) 2 (sext16 d) 2 s

/-- `JR GT,$+2+d` (R410). -/
def execJrGt (d : Byte) (s : State) : Result :=
  jumpRelative (condGt s.psw) 2 (sext16 d) 2 s

/-! ## JR: three bytes, base `$ + 3` -/

/-- `JR M,$+3+d` (R411). -/
def execJrM (d : Byte) (s : State) : Result :=
  jumpRelative (condM s.psw) 3 (sext16 d) 3 s

/-- `JR P,$+3+d` (R412). -/
def execJrP (d : Byte) (s : State) : Result :=
  jumpRelative (condP s.psw) 3 (sext16 d) 3 s

/-- `JR SLT,$+3+d` (R413). -/
def execJrSlt (d : Byte) (s : State) : Result :=
  jumpRelative (condSlt s.psw) 3 (sext16 d) 3 s

/-- `JR SGE,$+3+d` (R414). -/
def execJrSge (d : Byte) (s : State) : Result :=
  jumpRelative (condSge s.psw) 3 (sext16 d) 3 s

/-- `JR SLE,$+3+d` (R415). -/
def execJrSle (d : Byte) (s : State) : Result :=
  jumpRelative (condSle s.psw) 3 (sext16 d) 3 s

/-- `JR SGT,$+3+d` (R416). -/
def execJrSgt (d : Byte) (s : State) : Result :=
  jumpRelative (condSgt s.psw) 3 (sext16 d) 3 s

/-- `JR VS,$+3+d` (R417). -/
def execJrVs (d : Byte) (s : State) : Result :=
  jumpRelative (condVs s.psw) 3 (sext16 d) 3 s

/-- `JR VC,$+3+d` (R418). -/
def execJrVc (d : Byte) (s : State) : Result :=
  jumpRelative (condVc s.psw) 3 (sext16 d) 3 s

/-- `JR $+2+d`, unconditional (R419). -/
def execJr (d : Byte) (s : State) : Result := jumpRelative true 2 (sext16 d) 2 s

/-! ## JP: no flag changes -/

/-- `JP mn` (R420). -/
def execJpMn (mn : Word) (s : State) : Result := .next (s.putPc mn)

/-- `JP gg` (R421). -/
def execJpGg (gg : Reg16) (s : State) : Result := .next (s.putPc (s.get16 gg))

/-- `JP (src)` (R422). -/
def execJpSrc (m : Src) (s : State) : Result := withSrcWord m s fun t s => .next (s.putPc t)

end Sys2Proof.Machine
end

