-- ==== Sys2Proof/Machine/Logic.lean ====
section
/-! DEFINITION. Logic, increment and decrement, decimal adjust, multiply, divide, negate: AND, OR,
XOR, INC, DEC, DAA, DAS, MUL, DIV, NEG (42_logic_incdec_adjust_muldiv.md). -/

namespace Sys2Proof.Machine

/-! ## AND -/

/-- `AND A,n` (R261). -/
def execAndAN (n : Byte) (s : State) : Result := aluReg8 .and .a n 2 s

/-- `AND g,n` (R262). -/
def execAndGN (g : Reg8) (n : Byte) (s : State) : Result := aluReg8 .and g n 3 s

/-- `AND gg,mn` (R263). -/
def execAndGgMn (gg : Reg16) (mn : Word) (s : State) : Result := aluReg16 .and gg mn 4 s

/-- `AND r,g` (R264). -/
def execAndRG (r g : Reg8) (s : State) : Result := aluReg8 .and r (s.get8 g) 2 s

/-- `AND rr,gg` (R265). -/
def execAndRrGg (rr gg : Reg16) (s : State) : Result := aluReg16 .and rr (s.get16 gg) 2 s

/-- `AND r,(src)` (R266). -/
def execAndRSrc (r : Reg8) (m : Src) (s : State) : Result :=
  withSrcByte m s fun v s => aluReg8 .and r v (srcLen m 0) s

/-- `AND (src),n` (R267). -/
def execAndSrcN (m : Src) (n : Byte) (s : State) : Result := aluSrc8 .and m n (srcLen m 1) s

/-- `AND rr,(src)` (R268). -/
def execAndRrSrc (rr : Reg16) (m : Src) (s : State) : Result :=
  withSrcWord m s fun v s => aluReg16 .and rr v (srcLen m 0) s

/-! ## OR -/

/-- `OR A,n` (R269). -/
def execOrAN (n : Byte) (s : State) : Result := aluReg8 .or .a n 2 s

/-- `OR g,n` (R270). -/
def execOrGN (g : Reg8) (n : Byte) (s : State) : Result := aluReg8 .or g n 3 s

/-- `OR gg,mn` (R271). -/
def execOrGgMn (gg : Reg16) (mn : Word) (s : State) : Result := aluReg16 .or gg mn 4 s

/-- `OR r,g` (R272). -/
def execOrRG (r g : Reg8) (s : State) : Result := aluReg8 .or r (s.get8 g) 2 s

/-- `OR rr,gg` (R273). -/
def execOrRrGg (rr gg : Reg16) (s : State) : Result := aluReg16 .or rr (s.get16 gg) 2 s

/-- `OR r,(src)` (R274). -/
def execOrRSrc (r : Reg8) (m : Src) (s : State) : Result :=
  withSrcByte m s fun v s => aluReg8 .or r v (srcLen m 0) s

/-- `OR (src),n` (R275). -/
def execOrSrcN (m : Src) (n : Byte) (s : State) : Result := aluSrc8 .or m n (srcLen m 1) s

/-- `OR rr,(src)` (R276). -/
def execOrRrSrc (rr : Reg16) (m : Src) (s : State) : Result :=
  withSrcWord m s fun v s => aluReg16 .or rr v (srcLen m 0) s

/-! ## XOR -/

/-- `XOR A,n` (R277). -/
def execXorAN (n : Byte) (s : State) : Result := aluReg8 .xor .a n 2 s

/-- `XOR g,n` (R278). -/
def execXorGN (g : Reg8) (n : Byte) (s : State) : Result := aluReg8 .xor g n 3 s

/-- `XOR gg,mn` (R279). -/
def execXorGgMn (gg : Reg16) (mn : Word) (s : State) : Result := aluReg16 .xor gg mn 4 s

/-- `XOR r,g` (R280). -/
def execXorRG (r g : Reg8) (s : State) : Result := aluReg8 .xor r (s.get8 g) 2 s

/-- `XOR rr,gg` (R281). -/
def execXorRrGg (rr gg : Reg16) (s : State) : Result := aluReg16 .xor rr (s.get16 gg) 2 s

/-- `XOR r,(src)` (R282). -/
def execXorRSrc (r : Reg8) (m : Src) (s : State) : Result :=
  withSrcByte m s fun v s => aluReg8 .xor r v (srcLen m 0) s

/-- `XOR (src),n` (R283). -/
def execXorSrcN (m : Src) (n : Byte) (s : State) : Result := aluSrc8 .xor m n (srcLen m 1) s

/-- `XOR rr,(src)` (R284). -/
def execXorRrSrc (rr : Reg16) (m : Src) (s : State) : Result :=
  withSrcWord m s fun v s => aluReg16 .xor rr v (srcLen m 0) s

/-! ## INC and DEC -/

/-- INC or DEC of an 8-bit register: f gives the result, JF and ZF. -/
def stepReg8 (f : Byte → Byte × Bool × Bool) (r : Reg8) (s : State) : Result :=
  let out := f (s.get8 r)
  .next (((s.put8 r out.1).putJfZf out.2.1 out.2.2).advance 1)

/-- INC or DEC of a 16-bit register. -/
def stepReg16 (f : Word → Word × Bool × Bool) (rr : Reg16) (s : State) : Result :=
  let out := f (s.get16 rr)
  .next (((s.put16 rr out.1).putJfZf out.2.1 out.2.2).advance 1)

/-- INC or DEC of a memory byte. -/
def stepSrc (f : Byte → Byte × Bool × Bool) (m : Src) (s : State) : Result :=
  updateSrcByte m (fun v => (f v).1) s fun v s =>
    .next ((s.putJfZf (f v).2.1 (f v).2.2).advance (srcLen m 0))

/-- `INC r` (R285). -/
def execIncR (r : Reg8) (s : State) : Result := stepReg8 incN r s

/-- `INC rr` (R286). -/
def execIncRr (rr : Reg16) (s : State) : Result := stepReg16 incN rr s

/-- `INC (src)` (R287). -/
def execIncSrc (m : Src) (s : State) : Result := stepSrc incN m s

/-- `DEC r` (R288). -/
def execDecR (r : Reg8) (s : State) : Result := stepReg8 decN r s

/-- `DEC rr` (R289). -/
def execDecRr (rr : Reg16) (s : State) : Result := stepReg16 decN rr s

/-- `DEC (src)` (R290). -/
def execDecSrc (m : Src) (s : State) : Result := stepSrc decN m s

/-! ## Decimal adjust -/

/-- The end of DAA and DAS: g, CF, HF as adjusted, JF the new CF, ZF the zero of g, SF and VF
unchanged (R291, R292). -/
def adjusted (g : Reg8) (x : Adjusted) (s : State) : Result :=
  .next ((((s.put8 g x.res).putPsw
    { s.psw with jf := x.cf, zf := x.res == 0, cf := x.cf, hf := x.hf }).drew x.draws).advance 2)

/-- `DAA g` (R291). -/
def execDaa (g : Reg8) (s : State) : Result :=
  adjusted g (daaN (s.get8 g) s.psw (Config.daaOutOfTable s.draws)) s

/-- `DAS g` (R292). -/
def execDas (g : Reg8) (s : State) : Result :=
  adjusted g (dasN (s.get8 g) s.psw (Config.daaOutOfTable s.draws)) s

/-! ## Multiply, divide, negate -/

/-- `MUL ggH,ggL` (R293): ZF and JF say whether the upper byte of the product is 00H. -/
def execMul (p : Pair) (s : State) : Result :=
  let v := s.get16 (pairReg p)
  let product := mulN (hiByte v) (loByte v)
  .next (((s.put16 (pairReg p) product).putJfZf (hiByte product == 0) (hiByte product == 0)).advance 2)

/-- `DIV gg,C` (R294): the quotient to the low register, the remainder to the high one. The free
values are drawn in the order low register, high register, ZF (log 14, log 16). -/
def execDiv (p : Pair) (s : State) : Result :=
  let x := divN (s.get16 (pairReg p)) s.regs.c (Config.divOverflowValue s.draws)
    (Config.divOverflowValue (s.draws + 1)) (Config.undefFlagValue (s.draws + 2))
  .next ((((s.put16 (pairReg p) (mkWord x.high x.low)).putPsw
    { s.psw with jf := x.zf, zf := x.zf, cf := x.cf }).drew x.draws).advance 2)

/-- `NEG CS,gg` (R295): only when CF is 1; JF is 1 in both cases. -/
def execNegCs (gg : Reg16) (s : State) : Result :=
  loadedReg16 gg (if s.psw.cf then 0 - s.get16 gg else s.get16 gg) 2 s

end Sys2Proof.Machine
end

