-- ==== Sys2Proof/Machine/Prefix.lean ====
section
/-! DEFINITION. The prefix rows of spec/opcode_table.json: a first opcode whose second opcode is
undefined after it. The source gives such bytes no effect: the model stops with the fault
`UndefinedInstruction(bytes)` and changes nothing (30_encoding.md R111, R112; 92_eei_decisions.md
D1, D2, D3; log 8, log 9). -/

namespace Sys2Proof.Machine

/-- The fault of an undefined encoding, with its bytes, on every state (30_encoding.md R112). -/
def undefinedEncoding (bytes : List Byte) (_ : State) : Result :=
  .fault (.undefinedInstruction bytes)

/-- `prefix: register g / gg`, then an undefined second opcode (30_encoding.md R83, R112). -/
def execPrefixReg (g : BitVec 3) (op : Byte) (s : State) : Result :=
  undefinedEncoding [0xE8 ||| g.setWidth 8, op] s

/-- `prefix: source memory (x)`, then an undefined second opcode (30_encoding.md R83, R112). -/
def execPrefixSrcX (x : Byte) (op : Byte) (s : State) : Result :=
  undefinedEncoding [0xE0, x, op] s

/-- `prefix: source memory (vw)`, then an undefined second opcode (30_encoding.md R83, R112). -/
def execPrefixSrcVw (vw : Word) (op : Byte) (s : State) : Result :=
  undefinedEncoding [0xE1, loByte vw, hiByte vw, op] s

/-- `prefix: source memory (DE)`, then an undefined second opcode (30_encoding.md R83, R112). -/
def execPrefixSrcDe (op : Byte) (s : State) : Result :=
  undefinedEncoding [0xE2, op] s

/-- `prefix: source memory (HL)`, then an undefined second opcode (30_encoding.md R83, R112). -/
def execPrefixSrcHl (op : Byte) (s : State) : Result :=
  undefinedEncoding [0xE3, op] s

/-- `prefix: source memory (IX)`, then an undefined second opcode (30_encoding.md R83, R112). -/
def execPrefixSrcIx (op : Byte) (s : State) : Result :=
  undefinedEncoding [0xE4, op] s

/-- `prefix: source memory (IY)`, then an undefined second opcode (30_encoding.md R83, R112). -/
def execPrefixSrcIy (op : Byte) (s : State) : Result :=
  undefinedEncoding [0xE5, op] s

/-- `prefix: source memory (+SP)`, then an undefined second opcode (30_encoding.md R83, R112). -/
def execPrefixSrcIncSp (op : Byte) (s : State) : Result :=
  undefinedEncoding [0xE6, op] s

/-- `prefix: source memory (HL+C)`, then an undefined second opcode (30_encoding.md R83, R112). -/
def execPrefixSrcHlC (op : Byte) (s : State) : Result :=
  undefinedEncoding [0xE7, op] s

/-- `prefix: source memory (IX+d)`, then an undefined second opcode (30_encoding.md R83, R112). -/
def execPrefixSrcIxD (d : Byte) (op : Byte) (s : State) : Result :=
  undefinedEncoding [0xD4, d, op] s

/-- `prefix: source memory (IY+d)`, then an undefined second opcode (30_encoding.md R83, R112). -/
def execPrefixSrcIyD (d : Byte) (op : Byte) (s : State) : Result :=
  undefinedEncoding [0xD5, d, op] s

/-- `prefix: source memory (SP+d)`, then an undefined second opcode (30_encoding.md R83, R112). -/
def execPrefixSrcSpD (d : Byte) (op : Byte) (s : State) : Result :=
  undefinedEncoding [0xD6, d, op] s

/-- `prefix: source memory (HL+d)`, then an undefined second opcode (30_encoding.md R83, R112). -/
def execPrefixSrcHlD (d : Byte) (op : Byte) (s : State) : Result :=
  undefinedEncoding [0xD7, d, op] s

/-- `prefix: source memory (PC+A)`, then an undefined second opcode (30_encoding.md R83, R112). -/
def execPrefixSrcPcA (op : Byte) (s : State) : Result :=
  undefinedEncoding [0x4F, op] s

/-- `prefix: destination memory (x)`, then an undefined second opcode (30_encoding.md R83, R112). -/
def execPrefixDstX (x : Byte) (op : Byte) (s : State) : Result :=
  undefinedEncoding [0xF0, x, op] s

/-- `prefix: destination memory (vw)`, then an undefined second opcode (30_encoding.md R83, R112). -/
def execPrefixDstVw (vw : Word) (op : Byte) (s : State) : Result :=
  undefinedEncoding [0xF1, loByte vw, hiByte vw, op] s

/-- `prefix: destination memory (DE)`, then an undefined second opcode (30_encoding.md R83, R112). -/
def execPrefixDstDe (op : Byte) (s : State) : Result :=
  undefinedEncoding [0xF2, op] s

/-- `prefix: destination memory (HL)`, then an undefined second opcode (30_encoding.md R83, R112). -/
def execPrefixDstHl (op : Byte) (s : State) : Result :=
  undefinedEncoding [0xF3, op] s

/-- `prefix: destination memory (IX)`, then an undefined second opcode (30_encoding.md R83, R112). -/
def execPrefixDstIx (op : Byte) (s : State) : Result :=
  undefinedEncoding [0xF4, op] s

/-- `prefix: destination memory (IY)`, then an undefined second opcode (30_encoding.md R83, R112). -/
def execPrefixDstIy (op : Byte) (s : State) : Result :=
  undefinedEncoding [0xF5, op] s

/-- `prefix: destination memory (SP-)`, then an undefined second opcode (30_encoding.md R83, R112). -/
def execPrefixDstSpDec (op : Byte) (s : State) : Result :=
  undefinedEncoding [0xF6, op] s

/-- `prefix: destination memory (HL+C)`, then an undefined second opcode (30_encoding.md R83, R112). -/
def execPrefixDstHlC (op : Byte) (s : State) : Result :=
  undefinedEncoding [0xF7, op] s

/-- `prefix: destination memory (IX+d)`, then an undefined second opcode (30_encoding.md R83, R112). -/
def execPrefixDstIxD (d : Byte) (op : Byte) (s : State) : Result :=
  undefinedEncoding [0x54, d, op] s

/-- `prefix: destination memory (IY+d)`, then an undefined second opcode (30_encoding.md R83, R112). -/
def execPrefixDstIyD (d : Byte) (op : Byte) (s : State) : Result :=
  undefinedEncoding [0x55, d, op] s

/-- `prefix: destination memory (SP+d)`, then an undefined second opcode (30_encoding.md R83, R112). -/
def execPrefixDstSpD (d : Byte) (op : Byte) (s : State) : Result :=
  undefinedEncoding [0x56, d, op] s

/-- `prefix: destination memory (HL+d)`, then an undefined second opcode (30_encoding.md R83, R112). -/
def execPrefixDstHlD (d : Byte) (op : Byte) (s : State) : Result :=
  undefinedEncoding [0x57, d, op] s

end Sys2Proof.Machine
end

