-- ==== Sys2Proof/Machine/Shift.lean ====
section
/-! DEFINITION. Shift, rotate and nibble: SHLC, SHRC, ROLC, RORC, SHLCA, SHRCA, SWAP, ROLD, RORD
(43_shift_rotate_nibble.md). -/

namespace Sys2Proof.Machine

/-- The end of an 8-bit shift or rotate: JF and CF are the bit shifted out, ZF the zero of the
result, HF, SF, VF unchanged (R331 to R334). -/
def shiftedReg8 (g : Reg8) (out : Byte × Bool) (s : State) : Result :=
  .next (((s.put8 g out.1).putPsw
    { s.psw with jf := out.2, zf := out.1 == 0, cf := out.2 }).advance 2)

/-- The end of a 16-bit shift: as for 8 bits, and SF the sign of the result, VF as given, HF
unchanged (R336, R337). -/
def shiftedReg16 (gg : Reg16) (out : Word × Bool) (vf : Bool) (s : State) : Result :=
  .next (((s.put16 gg out.1).putPsw
    { s.psw with jf := out.2, zf := out.1 == 0, cf := out.2, sf := out.1.msb, vf := vf }).advance 2)

/-- `SHLC g` (R331). -/
def execShlc (g : Reg8) (s : State) : Result := shiftedReg8 g (shlcN (s.get8 g)) s

/-- `SHRC g` (R332). -/
def execShrc (g : Reg8) (s : State) : Result := shiftedReg8 g (shrcN (s.get8 g)) s

/-- `ROLC g` (R333). -/
def execRolc (g : Reg8) (s : State) : Result := shiftedReg8 g (rolcN (s.get8 g) s.psw.cf) s

/-- `RORC g` (R334). -/
def execRorc (g : Reg8) (s : State) : Result := shiftedReg8 g (rorcN (s.get8 g) s.psw.cf) s

/-- `SHLCA gg` (R336): VF is 1 if the most significant bit changed. -/
def execShlca (gg : Reg16) (s : State) : Result :=
  shiftedReg16 gg (shlcaN (s.get16 gg)) ((s.get16 gg).msb != (shlcaN (s.get16 gg)).1.msb) s

/-- `SHRCA gg` (R337): VF is 0. -/
def execShrca (gg : Reg16) (s : State) : Result :=
  shiftedReg16 gg (shrcaN (s.get16 gg)) false s

/-- `SWAP g` (R338): JF is 1, ZF unchanged. -/
def execSwap (g : Reg8) (s : State) : Result :=
  transferred 2 (s.put8 g (mkByte (loNibble (s.get8 g)) (hiNibble (s.get8 g))))

/-- `ROLD A,(src)` (R339): the upper nibble of A stays. -/
def execRold (m : Src) (s : State) : Result :=
  updateSrcByte m (fun v => mkByte (loNibble v) (loNibble s.regs.a)) s fun v s =>
    transferred (srcLen m 0) (s.put8 .a (mkByte (hiNibble s.regs.a) (hiNibble v)))

/-- `RORD A,(src)` (R340): the upper nibble of A stays. -/
def execRord (m : Src) (s : State) : Result :=
  updateSrcByte m (fun v => mkByte (loNibble s.regs.a) (hiNibble v)) s fun v s =>
    transferred (srcLen m 0) (s.put8 .a (mkByte (hiNibble s.regs.a) (loNibble v)))

end Sys2Proof.Machine
end

