-- ==== Sys2Proof/Machine/Dispatch.lean ====
section
/-! DEFINITION. Each instruction's meaning, one arm per constructor of Instr, in the order of
spec/opcode_table.json. -/

namespace Sys2Proof.Machine

def exec (i : Instr) (s : State) : Host.Outcome State Fault Refusal :=
  match i with
  | .prefixReg g op => Sys2Proof.Machine.execPrefixReg g op s
  | .prefixSrcX x op => Sys2Proof.Machine.execPrefixSrcX x op s
  | .prefixSrcVw vw op => Sys2Proof.Machine.execPrefixSrcVw vw op s
  | .prefixSrcDe op => Sys2Proof.Machine.execPrefixSrcDe op s
  | .prefixSrcHl op => Sys2Proof.Machine.execPrefixSrcHl op s
  | .prefixSrcIx op => Sys2Proof.Machine.execPrefixSrcIx op s
  | .prefixSrcIy op => Sys2Proof.Machine.execPrefixSrcIy op s
  | .prefixSrcIncSp op => Sys2Proof.Machine.execPrefixSrcIncSp op s
  | .prefixSrcHlC op => Sys2Proof.Machine.execPrefixSrcHlC op s
  | .prefixSrcIxD d op => Sys2Proof.Machine.execPrefixSrcIxD d op s
  | .prefixSrcIyD d op => Sys2Proof.Machine.execPrefixSrcIyD d op s
  | .prefixSrcSpD d op => Sys2Proof.Machine.execPrefixSrcSpD d op s
  | .prefixSrcHlD d op => Sys2Proof.Machine.execPrefixSrcHlD d op s
  | .prefixSrcPcA op => Sys2Proof.Machine.execPrefixSrcPcA op s
  | .prefixDstX x op => Sys2Proof.Machine.execPrefixDstX x op s
  | .prefixDstVw vw op => Sys2Proof.Machine.execPrefixDstVw vw op s
  | .prefixDstDe op => Sys2Proof.Machine.execPrefixDstDe op s
  | .prefixDstHl op => Sys2Proof.Machine.execPrefixDstHl op s
  | .prefixDstIx op => Sys2Proof.Machine.execPrefixDstIx op s
  | .prefixDstIy op => Sys2Proof.Machine.execPrefixDstIy op s
  | .prefixDstSpDec op => Sys2Proof.Machine.execPrefixDstSpDec op s
  | .prefixDstHlC op => Sys2Proof.Machine.execPrefixDstHlC op s
  | .prefixDstIxD d op => Sys2Proof.Machine.execPrefixDstIxD d op s
  | .prefixDstIyD d op => Sys2Proof.Machine.execPrefixDstIyD d op s
  | .prefixDstSpD d op => Sys2Proof.Machine.execPrefixDstSpD d op s
  | .prefixDstHlD d op => Sys2Proof.Machine.execPrefixDstHlD d op s
  | .nop => Sys2Proof.Machine.execNop s
  | .clrCf => Sys2Proof.Machine.execClrCf s
  | .setCf => Sys2Proof.Machine.execSetCf s
  | .cplCf => Sys2Proof.Machine.execCplCf s
  | .cmpXN x n => Sys2Proof.Machine.execCmpXN x n s
  | .ldwXMn x mn => Sys2Proof.Machine.execLdwXMn x mn s
  | .ldwHlMn mn => Sys2Proof.Machine.execLdwHlMn mn s
  | .ldXN x n => Sys2Proof.Machine.execLdXN x n s
  | .ldHlN n => Sys2Proof.Machine.execLdHlN n s
  | .ldAX x => Sys2Proof.Machine.execLdAX x s
  | .ldAHl => Sys2Proof.Machine.execLdAHl s
  | .ldXA x => Sys2Proof.Machine.execLdXA x s
  | .ldHlA => Sys2Proof.Machine.execLdHlA s
  | .ldAR r => Sys2Proof.Machine.execLdAR r s
  | .ldRN r n => Sys2Proof.Machine.execLdRN r n s
  | .incR r => Sys2Proof.Machine.execIncR r s
  | .decR r => Sys2Proof.Machine.execDecR r s
  | .incRr rr => Sys2Proof.Machine.execIncRr rr s
  | .ldSpPlusD d => Sys2Proof.Machine.execLdSpPlusD d s
  | .decRr rr => Sys2Proof.Machine.execDecRr rr s
  | .ldSpMinusD d => Sys2Proof.Machine.execLdSpMinusD d s
  | .ldRA r => Sys2Proof.Machine.execLdRA r s
  | .ldRrMn rr mn => Sys2Proof.Machine.execLdRrMn rr mn s
  | .pushRr p => Sys2Proof.Machine.execPushRr p s
  | .ldCfXB b x => Sys2Proof.Machine.execLdCfXB b x s
  | .addcAN n => Sys2Proof.Machine.execAddcAN n s
  | .addAN n => Sys2Proof.Machine.execAddAN n s
  | .subbAN n => Sys2Proof.Machine.execSubbAN n s
  | .subAN n => Sys2Proof.Machine.execSubAN n s
  | .andAN n => Sys2Proof.Machine.execAndAN n s
  | .xorAN n => Sys2Proof.Machine.execXorAN n s
  | .orAN n => Sys2Proof.Machine.execOrAN n s
  | .cmpAN n => Sys2Proof.Machine.execCmpAN n s
  | .callv n => Sys2Proof.Machine.execCallv n s
  | .jrsT d => Sys2Proof.Machine.execJrsT d s
  | .jrsF d => Sys2Proof.Machine.execJrsF d s
  | .setXB b x => Sys2Proof.Machine.execSetXB b x s
  | .clrXB b x => Sys2Proof.Machine.execClrXB b x s
  | .popRr p => Sys2Proof.Machine.execPopRr p s
  | .jrZ d => Sys2Proof.Machine.execJrZ d s
  | .jrNz d => Sys2Proof.Machine.execJrNz d s
  | .jrCs d => Sys2Proof.Machine.execJrCs d s
  | .jrCc d => Sys2Proof.Machine.execJrCc d s
  | .jrLe d => Sys2Proof.Machine.execJrLe d s
  | .jrGt d => Sys2Proof.Machine.execJrGt d s
  | .jrT d => Sys2Proof.Machine.execJrT d s
  | .jrF d => Sys2Proof.Machine.execJrF d s
  | .ret => Sys2Proof.Machine.execRet s
  | .reti => Sys2Proof.Machine.execReti s
  | .jr d => Sys2Proof.Machine.execJr d s
  | .callMn mn => Sys2Proof.Machine.execCallMn mn s
  | .jpMn mn => Sys2Proof.Machine.execJpMn mn s
  | .swi => Sys2Proof.Machine.execSwi s
  | .ei => Sys2Proof.Machine.execEi s
  | .di => Sys2Proof.Machine.execDi s
  | .addcRG r g => Sys2Proof.Machine.execAddcRG r g s
  | .addRG r g => Sys2Proof.Machine.execAddRG r g s
  | .subbRG r g => Sys2Proof.Machine.execSubbRG r g s
  | .subRG r g => Sys2Proof.Machine.execSubRG r g s
  | .andRG r g => Sys2Proof.Machine.execAndRG r g s
  | .xorRG r g => Sys2Proof.Machine.execXorRG r g s
  | .orRG r g => Sys2Proof.Machine.execOrRG r g s
  | .cmpRG r g => Sys2Proof.Machine.execCmpRG r g s
  | .ldRG r g => Sys2Proof.Machine.execLdRG r g s
  | .ldRrGg rr gg => Sys2Proof.Machine.execLdRrGg rr gg s
  | .xorCfGB g b => Sys2Proof.Machine.execXorCfGB g b s
  | .ldCfGB g b => Sys2Proof.Machine.execLdCfGB g b s
  | .addcGN g n => Sys2Proof.Machine.execAddcGN g n s
  | .addGN g n => Sys2Proof.Machine.execAddGN g n s
  | .subbGN g n => Sys2Proof.Machine.execSubbGN g n s
  | .subGN g n => Sys2Proof.Machine.execSubGN g n s
  | .andGN g n => Sys2Proof.Machine.execAndGN g n s
  | .xorGN g n => Sys2Proof.Machine.execXorGN g n s
  | .orGN g n => Sys2Proof.Machine.execOrGN g n s
  | .cmpGN g n => Sys2Proof.Machine.execCmpGN g n s
  | .addcGgMn gg mn => Sys2Proof.Machine.execAddcGgMn gg mn s
  | .addGgMn gg mn => Sys2Proof.Machine.execAddGgMn gg mn s
  | .subbGgMn gg mn => Sys2Proof.Machine.execSubbGgMn gg mn s
  | .subGgMn gg mn => Sys2Proof.Machine.execSubGgMn gg mn s
  | .andGgMn gg mn => Sys2Proof.Machine.execAndGgMn gg mn s
  | .xorGgMn gg mn => Sys2Proof.Machine.execXorGgMn gg mn s
  | .orGgMn gg mn => Sys2Proof.Machine.execOrGgMn gg mn s
  | .cmpGgMn gg mn => Sys2Proof.Machine.execCmpGgMn gg mn s
  | .xchRG r g => Sys2Proof.Machine.execXchRG r g s
  | .xchRrGg rr gg => Sys2Proof.Machine.execXchRrGg rr gg s
  | .addcRrGg rr gg => Sys2Proof.Machine.execAddcRrGg rr gg s
  | .addRrGg rr gg => Sys2Proof.Machine.execAddRrGg rr gg s
  | .subbRrGg rr gg => Sys2Proof.Machine.execSubbRrGg rr gg s
  | .subRrGg rr gg => Sys2Proof.Machine.execSubRrGg rr gg s
  | .andRrGg rr gg => Sys2Proof.Machine.execAndRrGg rr gg s
  | .xorRrGg rr gg => Sys2Proof.Machine.execXorRrGg rr gg s
  | .orRrGg rr gg => Sys2Proof.Machine.execOrRrGg rr gg s
  | .cmpRrGg rr gg => Sys2Proof.Machine.execCmpRrGg rr gg s
  | .setGB g b => Sys2Proof.Machine.execSetGB g b s
  | .clrGB g b => Sys2Proof.Machine.execClrGB g b s
  | .jrM d => Sys2Proof.Machine.execJrM d s
  | .jrP d => Sys2Proof.Machine.execJrP d s
  | .jrSlt d => Sys2Proof.Machine.execJrSlt d s
  | .jrSge d => Sys2Proof.Machine.execJrSge d s
  | .jrSle d => Sys2Proof.Machine.execJrSle d s
  | .jrSgt d => Sys2Proof.Machine.execJrSgt d s
  | .jrVs d => Sys2Proof.Machine.execJrVs d s
  | .jrVc d => Sys2Proof.Machine.execJrVc d s
  | .pushGg gg => Sys2Proof.Machine.execPushGg gg s
  | .popGg gg => Sys2Proof.Machine.execPopGg gg s
  | .daa g => Sys2Proof.Machine.execDaa g s
  | .das g => Sys2Proof.Machine.execDas g s
  | .pushPsw => Sys2Proof.Machine.execPushPsw s
  | .popPsw => Sys2Proof.Machine.execPopPsw s
  | .ldPswN n => Sys2Proof.Machine.execLdPswN n s
  | .cplGB g b => Sys2Proof.Machine.execCplGB g b s
  | .ldGBCf g b => Sys2Proof.Machine.execLdGBCf g b s
  | .shlca gg => Sys2Proof.Machine.execShlca gg s
  | .shrca gg => Sys2Proof.Machine.execShrca gg s
  | .mul p => Sys2Proof.Machine.execMul p s
  | .div p => Sys2Proof.Machine.execDiv p s
  | .shlc g => Sys2Proof.Machine.execShlc g s
  | .shrc g => Sys2Proof.Machine.execShrc g s
  | .rolc g => Sys2Proof.Machine.execRolc g s
  | .rorc g => Sys2Proof.Machine.execRorc g s
  | .negCs gg => Sys2Proof.Machine.execNegCs gg s
  | .retn => Sys2Proof.Machine.execRetn s
  | .callGg gg => Sys2Proof.Machine.execCallGg gg s
  | .jpGg gg => Sys2Proof.Machine.execJpGg gg s
  | .swap g => Sys2Proof.Machine.execSwap g s
  | .addcRSrc r m => Sys2Proof.Machine.execAddcRSrc r m s
  | .addRSrc r m => Sys2Proof.Machine.execAddRSrc r m s
  | .subbRSrc r m => Sys2Proof.Machine.execSubbRSrc r m s
  | .subRSrc r m => Sys2Proof.Machine.execSubRSrc r m s
  | .andRSrc r m => Sys2Proof.Machine.execAndRSrc r m s
  | .xorRSrc r m => Sys2Proof.Machine.execXorRSrc r m s
  | .orRSrc r m => Sys2Proof.Machine.execOrRSrc r m s
  | .cmpRSrc r m => Sys2Proof.Machine.execCmpRSrc r m s
  | .ldRSrc r m => Sys2Proof.Machine.execLdRSrc r m s
  | .ldRrSrc rr m => Sys2Proof.Machine.execLdRrSrc rr m s
  | .xorCfSrcB m b => Sys2Proof.Machine.execXorCfSrcB m b s
  | .ldCfSrcB m b => Sys2Proof.Machine.execLdCfSrcB m b s
  | .addcSrcN m n => Sys2Proof.Machine.execAddcSrcN m n s
  | .addSrcN m n => Sys2Proof.Machine.execAddSrcN m n s
  | .subbSrcN m n => Sys2Proof.Machine.execSubbSrcN m n s
  | .subSrcN m n => Sys2Proof.Machine.execSubSrcN m n s
  | .andSrcN m n => Sys2Proof.Machine.execAndSrcN m n s
  | .xorSrcN m n => Sys2Proof.Machine.execXorSrcN m n s
  | .orSrcN m n => Sys2Proof.Machine.execOrSrcN m n s
  | .cmpSrcN m n => Sys2Proof.Machine.execCmpSrcN m n s
  | .ldDstRr m rr => Sys2Proof.Machine.execLdDstRr m rr s
  | .xchRSrc r m => Sys2Proof.Machine.execXchRSrc r m s
  | .ldDstR m r => Sys2Proof.Machine.execLdDstR m r s
  | .addcRrSrc rr m => Sys2Proof.Machine.execAddcRrSrc rr m s
  | .addRrSrc rr m => Sys2Proof.Machine.execAddRrSrc rr m s
  | .subbRrSrc rr m => Sys2Proof.Machine.execSubbRrSrc rr m s
  | .subRrSrc rr m => Sys2Proof.Machine.execSubRrSrc rr m s
  | .andRrSrc rr m => Sys2Proof.Machine.execAndRrSrc rr m s
  | .xorRrSrc rr m => Sys2Proof.Machine.execXorRrSrc rr m s
  | .orRrSrc rr m => Sys2Proof.Machine.execOrRrSrc rr m s
  | .cmpRrSrc rr m => Sys2Proof.Machine.execCmpRrSrc rr m s
  | .setSrcB m b => Sys2Proof.Machine.execSetSrcB m b s
  | .clrSrcB m b => Sys2Proof.Machine.execClrSrcB m b s
  | .xchRrSrc rr m => Sys2Proof.Machine.execXchRrSrc rr m s
  | .cplSrcB m b => Sys2Proof.Machine.execCplSrcB m b s
  | .ldSrcBCf m b => Sys2Proof.Machine.execLdSrcBCf m b s
  | .incSrc m => Sys2Proof.Machine.execIncSrc m s
  | .setSrcA m => Sys2Proof.Machine.execSetSrcA m s
  | .ldSrcACf m => Sys2Proof.Machine.execLdSrcACf m s
  | .rold m => Sys2Proof.Machine.execRold m s
  | .rord m => Sys2Proof.Machine.execRord m s
  | .decSrc m => Sys2Proof.Machine.execDecSrc m s
  | .ldDstN m n => Sys2Proof.Machine.execLdDstN m n s
  | .clrSrcA m => Sys2Proof.Machine.execClrSrcA m s
  | .cplSrcA m => Sys2Proof.Machine.execCplSrcA m s
  | .ldCfSrcA m => Sys2Proof.Machine.execLdCfSrcA m s
  | .callSrc m => Sys2Proof.Machine.execCallSrc m s
  | .jpSrc m => Sys2Proof.Machine.execJpSrc m s

end Sys2Proof.Machine
end

