-- ==== Sys2Proof/Machine/Events.lean ====
section
/-! DEFINITION. What happens between two instructions: the host's offers, which of them is accepted,
and what an accepted one does (60_exceptions.md R460 to R464; 70_reset_and_hazards.md R480). -/

namespace Sys2Proof.Machine

/-- What the host offers at this boundary (60_exceptions.md R460; log 22). -/
def State.offers (s : State) : List HostEvent := s.schedule.headD []

/-- The offers of this boundary are past. -/
def State.pastOffers (s : State) : State := { s with schedule := s.schedule.tail }

/-- The maskable source the host chose: the first one it offers (60_exceptions.md R464; log 22). -/
def firstInterrupt : List HostEvent → Option Nat
  | [] => none
  | .interrupt k :: _ => some k
  | .nmi :: es => firstInterrupt es
  | .reset :: es => firstInterrupt es

/-- A reset event: the registers, PC, the flags and memory are those of `reset_state`
(70_reset_and_hazards.md R480; log 23). -/
def State.reloaded (s : State) : State :=
  { s with regs := s.launch.regs, pc := s.launch.pc, psw := s.launch.psw, mem := s.launch.mem }

/-- A boundary with the given offers: a reset first, then `Nmi`, which IMF does not mask, then the
maskable interrupt chosen, if IMF is 1; the entry pushes the address of the instruction that would
have executed (60_exceptions.md R461, R462, R464). Nothing accepted: k. -/
def acceptEvent (offers : List HostEvent) (s : State) (k : State → Result) : Result :=
  if .reset ∈ offers then .next s.reloaded
  else if .nmi ∈ offers then enterHandler s.pc Config.nmiVector s
  else
    match firstInterrupt offers with
    | none => k s
    | some n =>
      loadImf s fun imf s => if imf then enterHandler s.pc (Config.irqVector n) s else k s

end Sys2Proof.Machine
end

