-- ==== Sys2Proof/WellFormed.lean ====
section
/-! DEFINITION. Which terms of Instr stand for an encoding: the register codes a row leaves out
(30_encoding.md R85), the pairs MUL and DIV take (R106), the words that are spelled EI and DI
(R118, R119), and, for a prefix row, that the second opcode is undefined after it (R111). -/

namespace Sys2Proof

namespace WellFormed

/-- The code of a row that stops at code 110: not 111, the second name of HL
(30_encoding.md R85). -/
def namedOnce (rr : Reg16) : Bool := rr != .hl7

/-- The second opcodes undefined after the register prefix E8H+g: blank in the map (30_encoding.md
R111 b), or listed with other register prefixes only (R105, R106, R111 d). -/
def undefAfterReg (g : BitVec 3) (op : Byte) : Bool :=
  [0x4F, 0x7F, 0xDF, 0xF8, 0xF9, 0xFC].contains op.toNat
  || (g != 0 && ((0xD0 <= op.toNat && op.toNat <= 0xD7) ||
        [0xDC, 0xDD, 0xDE, 0xFB].contains op.toNat))
  || (op.toNat == 0xF2 && 4 <= g.toNat)
  || (op.toNat == 0xF3 && (g.toNat == 1 || 4 <= g.toNat))

/-- The second opcodes of the pure stores `LD (dst),rr`, `LD (dst),r`, `LD (dst),n`
(30_encoding.md R108, R109). -/
def storeOpcode (op : Byte) : Bool :=
  (0x68 <= op.toNat && op.toNat <= 0x6E) || (0x78 <= op.toNat && op.toNat <= 0x7F)
  || op.toNat == 0xF9

/-- The second opcodes undefined after a source prefix: blank in the map (30_encoding.md R111 c),
or a store (R109). -/
def undefAfterSrc (op : Byte) : Bool :=
  [0x4F, 0x6F, 0xF1, 0xF4, 0xF5, 0xFF].contains op.toNat
  || (0xD0 <= op.toNat && op.toNat <= 0xD7) || storeOpcode op

/-- The second opcodes undefined after a destination prefix: all but the stores (30_encoding.md
R109, R111). -/
def undefAfterDst (op : Byte) : Bool := !storeOpcode op

end WellFormed

open WellFormed in
/-- The instruction stands for an encoding of the spec. -/
def Instr.wellFormed : Instr → Bool
  | .prefixReg g op => undefAfterReg g op
  | .prefixSrcX _ op => undefAfterSrc op
  | .prefixSrcVw _ op => undefAfterSrc op
  | .prefixSrcDe op => undefAfterSrc op
  | .prefixSrcHl op => undefAfterSrc op
  | .prefixSrcIx op => undefAfterSrc op
  | .prefixSrcIy op => undefAfterSrc op
  | .prefixSrcIncSp op => undefAfterSrc op
  | .prefixSrcHlC op => undefAfterSrc op
  | .prefixSrcIxD _ op => undefAfterSrc op
  | .prefixSrcIyD _ op => undefAfterSrc op
  | .prefixSrcSpD _ op => undefAfterSrc op
  | .prefixSrcHlD _ op => undefAfterSrc op
  | .prefixSrcPcA op => undefAfterSrc op
  | .prefixDstX _ op => undefAfterDst op
  | .prefixDstVw _ op => undefAfterDst op
  | .prefixDstDe op => undefAfterDst op
  | .prefixDstHl op => undefAfterDst op
  | .prefixDstIx op => undefAfterDst op
  | .prefixDstIy op => undefAfterDst op
  | .prefixDstSpDec op => undefAfterDst op
  | .prefixDstHlC op => undefAfterDst op
  | .prefixDstIxD _ op => undefAfterDst op
  | .prefixDstIyD _ op => undefAfterDst op
  | .prefixDstSpD _ op => undefAfterDst op
  | .prefixDstHlD _ op => undefAfterDst op
  | .nop => true
  | .clrCf => true
  | .setCf => true
  | .cplCf => true
  | .cmpXN _ _ => true
  | .ldwXMn _ _ => true
  | .ldwHlMn _ => true
  | .ldXN _ _ => true
  | .ldHlN _ => true
  | .ldAX _ => true
  | .ldAHl => true
  | .ldXA _ => true
  | .ldHlA => true
  | .ldAR _ => true
  | .ldRN _ _ => true
  | .incR _ => true
  | .decR _ => true
  | .incRr rr => namedOnce rr
  | .ldSpPlusD _ => true
  | .decRr rr => namedOnce rr
  | .ldSpMinusD _ => true
  | .ldRA _ => true
  | .ldRrMn rr _ => namedOnce rr
  | .pushRr _ => true
  | .ldCfXB _ _ => true
  | .addcAN _ => true
  | .addAN _ => true
  | .subbAN _ => true
  | .subAN _ => true
  | .andAN _ => true
  | .xorAN _ => true
  | .orAN _ => true
  | .cmpAN _ => true
  | .callv _ => true
  | .jrsT _ => true
  | .jrsF _ => true
  | .setXB b x => !(b == 0 && x == 0x3A)
  | .clrXB b x => !(b == 0 && x == 0x3A)
  | .popRr _ => true
  | .jrZ _ => true
  | .jrNz _ => true
  | .jrCs _ => true
  | .jrCc _ => true
  | .jrLe _ => true
  | .jrGt _ => true
  | .jrT _ => true
  | .jrF _ => true
  | .ret => true
  | .reti => true
  | .jr _ => true
  | .callMn _ => true
  | .jpMn _ => true
  | .swi => true
  | .ei => true
  | .di => true
  | .addcRG _ _ => true
  | .addRG _ _ => true
  | .subbRG _ _ => true
  | .subRG _ _ => true
  | .andRG _ _ => true
  | .xorRG _ _ => true
  | .orRG _ _ => true
  | .cmpRG _ _ => true
  | .ldRG _ _ => true
  | .ldRrGg rr _ => namedOnce rr
  | .xorCfGB _ _ => true
  | .ldCfGB _ _ => true
  | .addcGN _ _ => true
  | .addGN _ _ => true
  | .subbGN _ _ => true
  | .subGN _ _ => true
  | .andGN _ _ => true
  | .xorGN _ _ => true
  | .orGN _ _ => true
  | .cmpGN _ _ => true
  | .addcGgMn _ _ => true
  | .addGgMn _ _ => true
  | .subbGgMn _ _ => true
  | .subGgMn _ _ => true
  | .andGgMn _ _ => true
  | .xorGgMn _ _ => true
  | .orGgMn _ _ => true
  | .cmpGgMn _ _ => true
  | .xchRG _ _ => true
  | .xchRrGg rr _ => namedOnce rr
  | .addcRrGg _ _ => true
  | .addRrGg _ _ => true
  | .subbRrGg _ _ => true
  | .subRrGg _ _ => true
  | .andRrGg _ _ => true
  | .xorRrGg _ _ => true
  | .orRrGg _ _ => true
  | .cmpRrGg _ _ => true
  | .setGB _ _ => true
  | .clrGB _ _ => true
  | .jrM _ => true
  | .jrP _ => true
  | .jrSlt _ => true
  | .jrSge _ => true
  | .jrSle _ => true
  | .jrSgt _ => true
  | .jrVs _ => true
  | .jrVc _ => true
  | .pushGg _ => true
  | .popGg _ => true
  | .daa _ => true
  | .das _ => true
  | .pushPsw => true
  | .popPsw => true
  | .ldPswN _ => true
  | .cplGB _ _ => true
  | .ldGBCf _ _ => true
  | .shlca _ => true
  | .shrca _ => true
  | .mul _ => true
  | .div p => p != .bc
  | .shlc _ => true
  | .shrc _ => true
  | .rolc _ => true
  | .rorc _ => true
  | .negCs _ => true
  | .retn => true
  | .callGg _ => true
  | .jpGg _ => true
  | .swap _ => true
  | .addcRSrc _ _ => true
  | .addRSrc _ _ => true
  | .subbRSrc _ _ => true
  | .subRSrc _ _ => true
  | .andRSrc _ _ => true
  | .xorRSrc _ _ => true
  | .orRSrc _ _ => true
  | .cmpRSrc _ _ => true
  | .ldRSrc _ _ => true
  | .ldRrSrc rr _ => namedOnce rr
  | .xorCfSrcB _ _ => true
  | .ldCfSrcB _ _ => true
  | .addcSrcN _ _ => true
  | .addSrcN _ _ => true
  | .subbSrcN _ _ => true
  | .subSrcN _ _ => true
  | .andSrcN _ _ => true
  | .xorSrcN _ _ => true
  | .orSrcN _ _ => true
  | .cmpSrcN _ _ => true
  | .ldDstRr _ rr => namedOnce rr
  | .xchRSrc _ _ => true
  | .ldDstR _ _ => true
  | .addcRrSrc _ _ => true
  | .addRrSrc _ _ => true
  | .subbRrSrc _ _ => true
  | .subRrSrc _ _ => true
  | .andRrSrc _ _ => true
  | .xorRrSrc _ _ => true
  | .orRrSrc _ _ => true
  | .cmpRrSrc _ _ => true
  | .setSrcB _ _ => true
  | .clrSrcB _ _ => true
  | .xchRrSrc _ _ => true
  | .cplSrcB _ _ => true
  | .ldSrcBCf _ _ => true
  | .incSrc _ => true
  | .setSrcA _ => true
  | .ldSrcACf _ => true
  | .rold _ => true
  | .rord _ => true
  | .decSrc _ => true
  | .ldDstN _ _ => true
  | .clrSrcA _ => true
  | .cplSrcA _ => true
  | .ldCfSrcA _ => true
  | .callSrc _ => true
  | .jpSrc _ => true

end Sys2Proof
end

