-- ==== Sys2Proof/Decode.lean ====
section
/-! DEFINITION. The decoder (30_encoding.md R80 to R114) and, after it, the encoder, written from
the encodings of spec/opcode_table.json. The decoder is total on any list of bytes; it answers an
instruction, that more bytes are needed, or that the bytes are undefined, and looks at no byte
beyond the instruction's last. -/

namespace Sys2Proof

open Machine

/-- What the decoder makes of the bytes fetched so far. -/
inductive Decoded where
  /-- the bytes begin with this instruction -/
  | instr (i : Instr)
  /-- the bytes are a proper beginning of an instruction: fetch one more -/
  | more
  /-- an undefined encoding (30_encoding.md R111 a), with its bytes -/
  | undefined (bytes : List Byte)
  deriving DecidableEq, Repr

namespace Decode

/-! ## Fields -/

/-- Bits 7:3 of an opcode byte, as a number: the row of eight codes it stands in. -/
def row (b : Byte) : Nat := (b.extractLsb' 3 5).toNat

/-- Bits 2:0 of an opcode byte (30_encoding.md R84). -/
def low3 (b : Byte) : BitVec 3 := b.extractLsb' 0 3

/-- Bits 5:3 of an opcode byte (30_encoding.md R84). -/
def mid3 (b : Byte) : BitVec 3 := b.extractLsb' 3 3

/-- The 8-bit register of a 3-bit code (10_state.md R21). -/
def reg8 (c : BitVec 3) : Reg8 :=
  match c.toNat with
  | 0 => .a
  | 1 => .w
  | 2 => .c
  | 3 => .b
  | 4 => .e
  | 5 => .d
  | 6 => .l
  | _ => .h

/-- The 16-bit register of a 3-bit code (10_state.md R22). -/
def reg16 (c : BitVec 3) : Reg16 :=
  match c.toNat with
  | 0 => .wa
  | 1 => .bc
  | 2 => .de
  | 3 => .hl
  | 4 => .ix
  | 5 => .iy
  | 6 => .sp
  | _ => .hl7

/-- The pair of a code 0 to 3 (30_encoding.md R84). -/
def pair (c : BitVec 3) : Pair :=
  match c.toNat with
  | 0 => .wa
  | 1 => .bc
  | 2 => .de
  | _ => .hl

/-! ## The operation field `ooo` (30_encoding.md R103) -/

/-- One-byte opcodes 60H+ooo: ALU-op A,n (30_encoding.md R100, R103). -/
def aluAN (op : BitVec 3) (n : Byte) : Instr :=
  match op.toNat with
  | 0 => .addcAN n
  | 1 => .addAN n
  | 2 => .subbAN n
  | 3 => .subAN n
  | 4 => .andAN n
  | 5 => .xorAN n
  | 6 => .orAN n
  | _ => .cmpAN n

/-- Second opcodes 00rrroooB after a register prefix: ALU-op r,g (30_encoding.md R103, R104). -/
def aluRG (op : BitVec 3) (r : Reg8) (g : Reg8) : Instr :=
  match op.toNat with
  | 0 => .addcRG r g
  | 1 => .addRG r g
  | 2 => .subbRG r g
  | 3 => .subRG r g
  | 4 => .andRG r g
  | 5 => .xorRG r g
  | 6 => .orRG r g
  | _ => .cmpRG r g

/-- Second opcodes 60H+ooo after a register prefix: ALU-op g,n (30_encoding.md R103, R104). -/
def aluGN (op : BitVec 3) (g : Reg8) (n : Byte) : Instr :=
  match op.toNat with
  | 0 => .addcGN g n
  | 1 => .addGN g n
  | 2 => .subbGN g n
  | 3 => .subGN g n
  | 4 => .andGN g n
  | 5 => .xorGN g n
  | 6 => .orGN g n
  | _ => .cmpGN g n

/-- Second opcodes 68H+ooo after a register prefix: ALU-op gg,mn (30_encoding.md R103, R104). -/
def aluGgMn (op : BitVec 3) (gg : Reg16) (mn : Word) : Instr :=
  match op.toNat with
  | 0 => .addcGgMn gg mn
  | 1 => .addGgMn gg mn
  | 2 => .subbGgMn gg mn
  | 3 => .subGgMn gg mn
  | 4 => .andGgMn gg mn
  | 5 => .xorGgMn gg mn
  | 6 => .orGgMn gg mn
  | _ => .cmpGgMn gg mn

/-- Second opcodes 10rrroooB after a register prefix: ALU-op rr,gg (30_encoding.md R103, R104). -/
def aluRrGg (op : BitVec 3) (rr : Reg16) (gg : Reg16) : Instr :=
  match op.toNat with
  | 0 => .addcRrGg rr gg
  | 1 => .addRrGg rr gg
  | 2 => .subbRrGg rr gg
  | 3 => .subRrGg rr gg
  | 4 => .andRrGg rr gg
  | 5 => .xorRrGg rr gg
  | 6 => .orRrGg rr gg
  | _ => .cmpRrGg rr gg

/-- Second opcodes 00rrroooB after a source prefix: ALU-op r,(src) (30_encoding.md R103, R108). -/
def aluRSrc (op : BitVec 3) (r : Reg8) (m : Src) : Instr :=
  match op.toNat with
  | 0 => .addcRSrc r m
  | 1 => .addRSrc r m
  | 2 => .subbRSrc r m
  | 3 => .subRSrc r m
  | 4 => .andRSrc r m
  | 5 => .xorRSrc r m
  | 6 => .orRSrc r m
  | _ => .cmpRSrc r m

/-- Second opcodes 60H+ooo after a source prefix: ALU-op (src),n (30_encoding.md R103, R108). -/
def aluSrcN (op : BitVec 3) (m : Src) (n : Byte) : Instr :=
  match op.toNat with
  | 0 => .addcSrcN m n
  | 1 => .addSrcN m n
  | 2 => .subbSrcN m n
  | 3 => .subSrcN m n
  | 4 => .andSrcN m n
  | 5 => .xorSrcN m n
  | 6 => .orSrcN m n
  | _ => .cmpSrcN m n

/-- Second opcodes 10rrroooB after a source prefix: ALU-op rr,(src) (30_encoding.md R103, R108). -/
def aluRrSrc (op : BitVec 3) (rr : Reg16) (m : Src) : Instr :=
  match op.toNat with
  | 0 => .addcRrSrc rr m
  | 1 => .addRrSrc rr m
  | 2 => .subbRrSrc rr m
  | 3 => .subRrSrc rr m
  | 4 => .andRrSrc rr m
  | 5 => .xorRrSrc rr m
  | 6 => .orRrSrc rr m
  | _ => .cmpRrSrc rr m

/-! ## Operand bytes -/

/-- One operand byte, then the instruction. -/
def need1 (bs : List Byte) (k : Byte → Instr) : Decoded :=
  match bs with
  | x :: _ => .instr (k x)
  | [] => .more

/-- Two operand bytes, then the instruction. -/
def need2 (bs : List Byte) (k : Byte → Byte → Instr) : Decoded :=
  match bs with
  | x :: y :: _ => .instr (k x y)
  | _ => .more

/-- A 16-bit operand, low byte first (20_memory.md R53), then the instruction. -/
def needWord (bs : List Byte) (k : Word → Instr) : Decoded :=
  need2 bs fun n m => k (mkWord m n)

/-- An operand byte and a 16-bit operand after it, then the instruction. -/
def need1Word (bs : List Byte) (k : Byte → Word → Instr) : Decoded :=
  match bs with
  | x :: n :: m :: _ => .instr (k x (mkWord m n))
  | _ => .more

/-! ## Prefix rows: a prefix with an undefined second opcode (log 9) -/

/-- The prefix row's constructor of a source mode (30_encoding.md R83). -/
def prefixedSrc (m : Src) (op : Byte) : Instr :=
  match m with
  | .dir8 x => .prefixSrcX x op
  | .dir16 vw => .prefixSrcVw vw op
  | .de => .prefixSrcDe op
  | .hl => .prefixSrcHl op
  | .ix => .prefixSrcIx op
  | .iy => .prefixSrcIy op
  | .incSp => .prefixSrcIncSp op
  | .hlC => .prefixSrcHlC op
  | .ixD d => .prefixSrcIxD d op
  | .iyD d => .prefixSrcIyD d op
  | .spD d => .prefixSrcSpD d op
  | .hlD d => .prefixSrcHlD d op
  | .pcA => .prefixSrcPcA op

/-- The prefix row's constructor of a destination mode (30_encoding.md R83). -/
def prefixedDst (m : Dst) (op : Byte) : Instr :=
  match m with
  | .dir8 x => .prefixDstX x op
  | .dir16 vw => .prefixDstVw vw op
  | .de => .prefixDstDe op
  | .hl => .prefixDstHl op
  | .ix => .prefixDstIx op
  | .iy => .prefixDstIy op
  | .spDec => .prefixDstSpDec op
  | .hlC => .prefixDstHlC op
  | .ixD d => .prefixDstIxD d op
  | .iyD d => .prefixDstIyD d op
  | .spD d => .prefixDstSpD d op
  | .hlD d => .prefixDstHlD d op

/-! ## Second opcodes -/

/-- The second opcode after the register prefix E8H+g (30_encoding.md R104 to R107); g is the
prefix's code. -/
def afterReg (g : BitVec 3) (op : Byte) (bs : List Byte) : Decoded :=
  let undef := Decoded.instr (.prefixReg g op)
  let onlyE8 (d : Decoded) := if g = 0 then d else undef
  match row op with
  | 0 | 1 | 2 | 3 | 4 | 5 | 6 | 7 => .instr (aluRG (low3 op) (reg8 (mid3 op)) (reg8 g))
  | 8 => .instr (.ldRG (reg8 (low3 op)) (reg8 g))
  | 9 => if low3 op = 7 then undef else .instr (.ldRrGg (reg16 (low3 op)) (reg16 g))
  | 10 => .instr (.xorCfGB (reg8 g) (low3 op))
  | 11 => .instr (.ldCfGB (reg8 g) (low3 op))
  | 12 => need1 bs fun n => aluGN (low3 op) (reg8 g) n
  | 13 => needWord bs fun mn => aluGgMn (low3 op) (reg16 g) mn
  | 14 => .instr (.xchRG (reg8 (low3 op)) (reg8 g))
  | 15 => if low3 op = 7 then undef else .instr (.xchRrGg (reg16 (low3 op)) (reg16 g))
  | 16 | 17 | 18 | 19 | 20 | 21 | 22 | 23 =>
    .instr (aluRrGg (low3 op) (reg16 (mid3 op)) (reg16 g))
  | 24 => .instr (.setGB (reg8 g) (low3 op))
  | 25 => .instr (.clrGB (reg8 g) (low3 op))
  | 26 =>
    match (low3 op).toNat with
    | 0 => onlyE8 (need1 bs .jrM)
    | 1 => onlyE8 (need1 bs .jrP)
    | 2 => onlyE8 (need1 bs .jrSlt)
    | 3 => onlyE8 (need1 bs .jrSge)
    | 4 => onlyE8 (need1 bs .jrSle)
    | 5 => onlyE8 (need1 bs .jrSgt)
    | 6 => onlyE8 (need1 bs .jrVs)
    | _ => onlyE8 (need1 bs .jrVc)
  | 27 =>
    match (low3 op).toNat with
    | 0 => .instr (.pushGg (reg16 g))
    | 1 => .instr (.popGg (reg16 g))
    | 2 => .instr (.daa (reg8 g))
    | 3 => .instr (.das (reg8 g))
    | 4 => onlyE8 (.instr .pushPsw)
    | 5 => onlyE8 (.instr .popPsw)
    | 6 => onlyE8 (need1 bs .ldPswN)
    | _ => undef
  | 28 => .instr (.cplGB (reg8 g) (low3 op))
  | 29 => .instr (.ldGBCf (reg8 g) (low3 op))
  | 30 =>
    match (low3 op).toNat with
    | 0 => .instr (.shlca (reg16 g))
    | 1 => .instr (.shrca (reg16 g))
    | 2 => if g.toNat < 4 then .instr (.mul (pair g)) else undef
    | 3 => if g.toNat < 4 ∧ g ≠ 1 then .instr (.div (pair g)) else undef
    | 4 => .instr (.shlc (reg8 g))
    | 5 => .instr (.shrc (reg8 g))
    | 6 => .instr (.rolc (reg8 g))
    | _ => .instr (.rorc (reg8 g))
  | _ =>
    match (low3 op).toNat with
    | 2 => .instr (.negCs (reg16 g))
    | 3 => onlyE8 (.instr .retn)
    | 5 => .instr (.callGg (reg16 g))
    | 6 => .instr (.jpGg (reg16 g))
    | 7 => .instr (.swap (reg8 g))
    | _ => undef

/-- The second opcode after a source prefix (30_encoding.md R108, R109). -/
def afterSrc (m : Src) (op : Byte) (bs : List Byte) : Decoded :=
  let undef := Decoded.instr (prefixedSrc m op)
  match row op with
  | 0 | 1 | 2 | 3 | 4 | 5 | 6 | 7 => .instr (aluRSrc (low3 op) (reg8 (mid3 op)) m)
  | 8 => .instr (.ldRSrc (reg8 (low3 op)) m)
  | 9 => if low3 op = 7 then undef else .instr (.ldRrSrc (reg16 (low3 op)) m)
  | 10 => .instr (.xorCfSrcB m (low3 op))
  | 11 => .instr (.ldCfSrcB m (low3 op))
  | 12 => need1 bs fun n => aluSrcN (low3 op) m n
  | 14 => .instr (.xchRSrc (reg8 (low3 op)) m)
  | 16 | 17 | 18 | 19 | 20 | 21 | 22 | 23 => .instr (aluRrSrc (low3 op) (reg16 (mid3 op)) m)
  | 24 => .instr (.setSrcB m (low3 op))
  | 25 => .instr (.clrSrcB m (low3 op))
  | 27 => .instr (.xchRrSrc (reg16 (low3 op)) m)
  | 28 => .instr (.cplSrcB m (low3 op))
  | 29 => .instr (.ldSrcBCf m (low3 op))
  | 30 =>
    match (low3 op).toNat with
    | 0 => .instr (.incSrc m)
    | 2 => .instr (.setSrcA m)
    | 3 => .instr (.ldSrcACf m)
    | 6 => .instr (.rold m)
    | 7 => .instr (.rord m)
    | _ => undef
  | 31 =>
    match (low3 op).toNat with
    | 0 => .instr (.decSrc m)
    | 2 => .instr (.clrSrcA m)
    | 3 => .instr (.cplSrcA m)
    | 4 => .instr (.ldCfSrcA m)
    | 5 => .instr (.callSrc m)
    | 6 => .instr (.jpSrc m)
    | _ => undef
  | _ => undef

/-- The second opcode after a destination prefix (30_encoding.md R108, R109). -/
def afterDst (m : Dst) (op : Byte) (bs : List Byte) : Decoded :=
  let undef := Decoded.instr (prefixedDst m op)
  match row op with
  | 13 => if low3 op = 7 then undef else .instr (.ldDstRr m (reg16 (low3 op)))
  | 15 => .instr (.ldDstR m (reg8 (low3 op)))
  | 31 => if low3 op = 1 then need1 bs fun n => .ldDstN m n else undef
  | _ => undef

/-! ## The second opcode's place: after the prefix's operand bytes (30_encoding.md R82, R83) -/

/-- A second opcode next. -/
def second (bs : List Byte) (k : Byte → List Byte → Decoded) : Decoded :=
  match bs with
  | op :: bs => k op bs
  | [] => .more

/-- One prefix operand byte, then a second opcode. -/
def second1 (bs : List Byte) (k : Byte → Byte → List Byte → Decoded) : Decoded :=
  match bs with
  | x :: bs => second bs (k x)
  | [] => .more

/-- A 16-bit prefix operand w, v, then a second opcode. -/
def secondWord (bs : List Byte) (k : Word → Byte → List Byte → Decoded) : Decoded :=
  match bs with
  | w :: v :: bs => second bs (k (mkWord v w))
  | _ => .more

/-! ## First opcodes (30_encoding.md R100) -/

/-- The first byte b and the bytes after it. -/
def first (b : Byte) (bs : List Byte) : Decoded :=
  match row b with
  | 0 =>
    match (low3 b).toNat with
    | 0 => .instr .nop
    | 4 => .instr .clrCf
    | 5 => .instr .setCf
    | 6 => .instr .cplCf
    | 7 => need2 bs .cmpXN
    | _ => .undefined [b]
  | 1 =>
    match (low3 b).toNat with
    | 0 => need1Word bs .ldwXMn
    | 1 => needWord bs .ldwHlMn
    | 2 => need2 bs .ldXN
    | 3 => need1 bs .ldHlN
    | 4 => need1 bs .ldAX
    | 5 => .instr .ldAHl
    | 6 => need1 bs .ldXA
    | _ => .instr .ldHlA
  | 2 => .instr (.ldAR (reg8 (low3 b)))
  | 3 => need1 bs (.ldRN (reg8 (low3 b)))
  | 4 => .instr (.incR (reg8 (low3 b)))
  | 5 => .instr (.decR (reg8 (low3 b)))
  | 6 => if low3 b = 7 then need1 bs .ldSpPlusD else .instr (.incRr (reg16 (low3 b)))
  | 7 => if low3 b = 7 then need1 bs .ldSpMinusD else .instr (.decRr (reg16 (low3 b)))
  | 8 => .instr (.ldRA (reg8 (low3 b)))
  | 9 => if low3 b = 7 then second bs (afterSrc .pcA) else needWord bs (.ldRrMn (reg16 (low3 b)))
  | 10 =>
    match (low3 b).toNat with
    | 4 => second1 bs fun d => afterDst (.ixD d)
    | 5 => second1 bs fun d => afterDst (.iyD d)
    | 6 => second1 bs fun d => afterDst (.spD d)
    | 7 => second1 bs fun d => afterDst (.hlD d)
    | _ => .instr (.pushRr (pair (low3 b)))
  | 11 => need1 bs (.ldCfXB (low3 b))
  | 12 => need1 bs (aluAN (low3 b))
  | 13 => .undefined [b]
  | 14 | 15 => .instr (.callv (b.extractLsb' 0 4))
  | 16 | 17 | 18 | 19 => .instr (.jrsT (b.extractLsb' 0 5))
  | 20 | 21 | 22 | 23 => .instr (.jrsF (b.extractLsb' 0 5))
  | 24 => need1 bs fun x => if low3 b = 0 ∧ x = 0x3A then .ei else .setXB (low3 b) x
  | 25 => need1 bs fun x => if low3 b = 0 ∧ x = 0x3A then .di else .clrXB (low3 b) x
  | 26 =>
    match (low3 b).toNat with
    | 4 => second1 bs fun d => afterSrc (.ixD d)
    | 5 => second1 bs fun d => afterSrc (.iyD d)
    | 6 => second1 bs fun d => afterSrc (.spD d)
    | 7 => second1 bs fun d => afterSrc (.hlD d)
    | _ => .instr (.popRr (pair (low3 b)))
  | 27 =>
    match (low3 b).toNat with
    | 0 => need1 bs .jrZ
    | 1 => need1 bs .jrNz
    | 2 => need1 bs .jrCs
    | 3 => need1 bs .jrCc
    | 4 => need1 bs .jrLe
    | 5 => need1 bs .jrGt
    | 6 => need1 bs .jrT
    | _ => need1 bs .jrF
  | 28 =>
    match (low3 b).toNat with
    | 0 => second1 bs fun x => afterSrc (.dir8 x)
    | 1 => secondWord bs fun vw => afterSrc (.dir16 vw)
    | 2 => second bs (afterSrc .de)
    | 3 => second bs (afterSrc .hl)
    | 4 => second bs (afterSrc .ix)
    | 5 => second bs (afterSrc .iy)
    | 6 => second bs (afterSrc .incSp)
    | _ => second bs (afterSrc .hlC)
  | 29 => second bs (afterReg (low3 b))
  | 30 =>
    match (low3 b).toNat with
    | 0 => second1 bs fun x => afterDst (.dir8 x)
    | 1 => secondWord bs fun vw => afterDst (.dir16 vw)
    | 2 => second bs (afterDst .de)
    | 3 => second bs (afterDst .hl)
    | 4 => second bs (afterDst .ix)
    | 5 => second bs (afterDst .iy)
    | 6 => second bs (afterDst .spDec)
    | _ => second bs (afterDst .hlC)
  | _ =>
    match (low3 b).toNat with
    | 2 => .instr .ret
    | 3 => .instr .reti
    | 4 => need1 bs .jr
    | 5 => needWord bs .callMn
    | 6 => needWord bs .jpMn
    | 7 => .instr .swi
    | _ => .undefined [b]

end Decode

/-- The decoder (30_encoding.md R114): bytes in the order of their addresses, the first at `$`. -/
def decode : List Byte → Decoded
  | [] => .more
  | b :: bs => Decode.first b bs

/-- The instruction the decoder reads from an instruction whose bits are w: byte k of the
instruction is bits 8k+7 to 8k of w, for the bits below nbits; every bit above is 0. The longest
instruction has 5 bytes (30_encoding.md R82). -/
def decodeTableWord (nbits w : Nat) : Option Instr :=
  match decode ((List.range 5).map fun k => BitVec.ofNat 8 ((w % 2 ^ nbits) / 2 ^ (8 * k))) with
  | .instr i => some i
  | .more => none
  | .undefined _ => none

/-! ## The encoder -/

namespace Encode

/-- The 3-bit code of an 8-bit register (10_state.md R21). -/
def code8 : Reg8 → BitVec 3
  | .a => 0
  | .w => 1
  | .c => 2
  | .b => 3
  | .e => 4
  | .d => 5
  | .l => 6
  | .h => 7

/-- The 3-bit code of a 16-bit register (10_state.md R22). -/
def code16 : Reg16 → BitVec 3
  | .wa => 0
  | .bc => 1
  | .de => 2
  | .hl => 3
  | .ix => 4
  | .iy => 5
  | .sp => 6
  | .hl7 => 7

/-- The 2-bit code of a pair (30_encoding.md R84). -/
def codePair : Pair → BitVec 2
  | .wa => 0
  | .bc => 1
  | .de => 2
  | .hl => 3

/-- An opcode byte with a field in its low bits (30_encoding.md R84). -/
def field (base : Byte) {n : Nat} (c : BitVec n) : Byte := base ||| c.setWidth 8

/-- An opcode byte with a field in bits 5:3 (30_encoding.md R84). -/
def fieldMid (base : Byte) (c : BitVec 3) : Byte := base ||| (c.setWidth 8 <<< 3)

/-- A source prefix and its operand bytes (30_encoding.md R83). -/
def srcPrefix : Src → List Byte
  | .dir8 x => [0xE0, x]
  | .dir16 vw => [0xE1, loByte vw, hiByte vw]
  | .de => [0xE2]
  | .hl => [0xE3]
  | .ix => [0xE4]
  | .iy => [0xE5]
  | .incSp => [0xE6]
  | .hlC => [0xE7]
  | .ixD d => [0xD4, d]
  | .iyD d => [0xD5, d]
  | .spD d => [0xD6, d]
  | .hlD d => [0xD7, d]
  | .pcA => [0x4F]

/-- A destination prefix and its operand bytes (30_encoding.md R83). -/
def dstPrefix : Dst → List Byte
  | .dir8 x => [0xF0, x]
  | .dir16 vw => [0xF1, loByte vw, hiByte vw]
  | .de => [0xF2]
  | .hl => [0xF3]
  | .ix => [0xF4]
  | .iy => [0xF5]
  | .spDec => [0xF6]
  | .hlC => [0xF7]
  | .ixD d => [0x54, d]
  | .iyD d => [0x55, d]
  | .spD d => [0x56, d]
  | .hlD d => [0x57, d]

end Encode

open Encode in
/-- The bytes of an instruction, the one at `$` first: each arm is the `encoding` of its row of
spec/opcode_table.json, after the prefix bytes for a row of format src or dst. -/
def encode : Instr → List Byte
  | .prefixReg g op => [field 0xE8 g, op]
  | .prefixSrcX x op => [0xE0, x, op]
  | .prefixSrcVw vw op => [0xE1, loByte vw, hiByte vw, op]
  | .prefixSrcDe op => [0xE2, op]
  | .prefixSrcHl op => [0xE3, op]
  | .prefixSrcIx op => [0xE4, op]
  | .prefixSrcIy op => [0xE5, op]
  | .prefixSrcIncSp op => [0xE6, op]
  | .prefixSrcHlC op => [0xE7, op]
  | .prefixSrcIxD d op => [0xD4, d, op]
  | .prefixSrcIyD d op => [0xD5, d, op]
  | .prefixSrcSpD d op => [0xD6, d, op]
  | .prefixSrcHlD d op => [0xD7, d, op]
  | .prefixSrcPcA op => [0x4F, op]
  | .prefixDstX x op => [0xF0, x, op]
  | .prefixDstVw vw op => [0xF1, loByte vw, hiByte vw, op]
  | .prefixDstDe op => [0xF2, op]
  | .prefixDstHl op => [0xF3, op]
  | .prefixDstIx op => [0xF4, op]
  | .prefixDstIy op => [0xF5, op]
  | .prefixDstSpDec op => [0xF6, op]
  | .prefixDstHlC op => [0xF7, op]
  | .prefixDstIxD d op => [0x54, d, op]
  | .prefixDstIyD d op => [0x55, d, op]
  | .prefixDstSpD d op => [0x56, d, op]
  | .prefixDstHlD d op => [0x57, d, op]
  | .nop => [0x00]
  | .clrCf => [0x04]
  | .setCf => [0x05]
  | .cplCf => [0x06]
  | .cmpXN x n => [0x07, x, n]
  | .ldwXMn x mn => [0x08, x, loByte mn, hiByte mn]
  | .ldwHlMn mn => [0x09, loByte mn, hiByte mn]
  | .ldXN x n => [0x0A, x, n]
  | .ldHlN n => [0x0B, n]
  | .ldAX x => [0x0C, x]
  | .ldAHl => [0x0D]
  | .ldXA x => [0x0E, x]
  | .ldHlA => [0x0F]
  | .ldAR r => [field 0x10 (code8 r)]
  | .ldRN r n => [field 0x18 (code8 r), n]
  | .incR r => [field 0x20 (code8 r)]
  | .decR r => [field 0x28 (code8 r)]
  | .incRr rr => [field 0x30 (code16 rr)]
  | .ldSpPlusD d => [0x37, d]
  | .decRr rr => [field 0x38 (code16 rr)]
  | .ldSpMinusD d => [0x3F, d]
  | .ldRA r => [field 0x40 (code8 r)]
  | .ldRrMn rr mn => [field 0x48 (code16 rr), loByte mn, hiByte mn]
  | .pushRr p => [field 0x50 (codePair p)]
  | .ldCfXB b x => [field 0x58 b, x]
  | .addcAN n => [0x60, n]
  | .addAN n => [0x61, n]
  | .subbAN n => [0x62, n]
  | .subAN n => [0x63, n]
  | .andAN n => [0x64, n]
  | .xorAN n => [0x65, n]
  | .orAN n => [0x66, n]
  | .cmpAN n => [0x67, n]
  | .callv n => [field 0x70 n]
  | .jrsT d => [field 0x80 d]
  | .jrsF d => [field 0xA0 d]
  | .setXB b x => [field 0xC0 b, x]
  | .clrXB b x => [field 0xC8 b, x]
  | .popRr p => [field 0xD0 (codePair p)]
  | .jrZ d => [0xD8, d]
  | .jrNz d => [0xD9, d]
  | .jrCs d => [0xDA, d]
  | .jrCc d => [0xDB, d]
  | .jrLe d => [0xDC, d]
  | .jrGt d => [0xDD, d]
  | .jrT d => [0xDE, d]
  | .jrF d => [0xDF, d]
  | .ret => [0xFA]
  | .reti => [0xFB]
  | .jr d => [0xFC, d]
  | .callMn mn => [0xFD, loByte mn, hiByte mn]
  | .jpMn mn => [0xFE, loByte mn, hiByte mn]
  | .swi => [0xFF]
  | .ei => [0xC0, 0x3A]
  | .di => [0xC8, 0x3A]
  | .addcRG r g => [field 0xE8 (code8 g), fieldMid 0x00 (code8 r)]
  | .addRG r g => [field 0xE8 (code8 g), fieldMid 0x01 (code8 r)]
  | .subbRG r g => [field 0xE8 (code8 g), fieldMid 0x02 (code8 r)]
  | .subRG r g => [field 0xE8 (code8 g), fieldMid 0x03 (code8 r)]
  | .andRG r g => [field 0xE8 (code8 g), fieldMid 0x04 (code8 r)]
  | .xorRG r g => [field 0xE8 (code8 g), fieldMid 0x05 (code8 r)]
  | .orRG r g => [field 0xE8 (code8 g), fieldMid 0x06 (code8 r)]
  | .cmpRG r g => [field 0xE8 (code8 g), fieldMid 0x07 (code8 r)]
  | .ldRG r g => [field 0xE8 (code8 g), field 0x40 (code8 r)]
  | .ldRrGg rr gg => [field 0xE8 (code16 gg), field 0x48 (code16 rr)]
  | .xorCfGB g b => [field 0xE8 (code8 g), field 0x50 b]
  | .ldCfGB g b => [field 0xE8 (code8 g), field 0x58 b]
  | .addcGN g n => [field 0xE8 (code8 g), 0x60, n]
  | .addGN g n => [field 0xE8 (code8 g), 0x61, n]
  | .subbGN g n => [field 0xE8 (code8 g), 0x62, n]
  | .subGN g n => [field 0xE8 (code8 g), 0x63, n]
  | .andGN g n => [field 0xE8 (code8 g), 0x64, n]
  | .xorGN g n => [field 0xE8 (code8 g), 0x65, n]
  | .orGN g n => [field 0xE8 (code8 g), 0x66, n]
  | .cmpGN g n => [field 0xE8 (code8 g), 0x67, n]
  | .addcGgMn gg mn => [field 0xE8 (code16 gg), 0x68, loByte mn, hiByte mn]
  | .addGgMn gg mn => [field 0xE8 (code16 gg), 0x69, loByte mn, hiByte mn]
  | .subbGgMn gg mn => [field 0xE8 (code16 gg), 0x6A, loByte mn, hiByte mn]
  | .subGgMn gg mn => [field 0xE8 (code16 gg), 0x6B, loByte mn, hiByte mn]
  | .andGgMn gg mn => [field 0xE8 (code16 gg), 0x6C, loByte mn, hiByte mn]
  | .xorGgMn gg mn => [field 0xE8 (code16 gg), 0x6D, loByte mn, hiByte mn]
  | .orGgMn gg mn => [field 0xE8 (code16 gg), 0x6E, loByte mn, hiByte mn]
  | .cmpGgMn gg mn => [field 0xE8 (code16 gg), 0x6F, loByte mn, hiByte mn]
  | .xchRG r g => [field 0xE8 (code8 g), field 0x70 (code8 r)]
  | .xchRrGg rr gg => [field 0xE8 (code16 gg), field 0x78 (code16 rr)]
  | .addcRrGg rr gg => [field 0xE8 (code16 gg), fieldMid 0x80 (code16 rr)]
  | .addRrGg rr gg => [field 0xE8 (code16 gg), fieldMid 0x81 (code16 rr)]
  | .subbRrGg rr gg => [field 0xE8 (code16 gg), fieldMid 0x82 (code16 rr)]
  | .subRrGg rr gg => [field 0xE8 (code16 gg), fieldMid 0x83 (code16 rr)]
  | .andRrGg rr gg => [field 0xE8 (code16 gg), fieldMid 0x84 (code16 rr)]
  | .xorRrGg rr gg => [field 0xE8 (code16 gg), fieldMid 0x85 (code16 rr)]
  | .orRrGg rr gg => [field 0xE8 (code16 gg), fieldMid 0x86 (code16 rr)]
  | .cmpRrGg rr gg => [field 0xE8 (code16 gg), fieldMid 0x87 (code16 rr)]
  | .setGB g b => [field 0xE8 (code8 g), field 0xC0 b]
  | .clrGB g b => [field 0xE8 (code8 g), field 0xC8 b]
  | .jrM d => [0xE8, 0xD0, d]
  | .jrP d => [0xE8, 0xD1, d]
  | .jrSlt d => [0xE8, 0xD2, d]
  | .jrSge d => [0xE8, 0xD3, d]
  | .jrSle d => [0xE8, 0xD4, d]
  | .jrSgt d => [0xE8, 0xD5, d]
  | .jrVs d => [0xE8, 0xD6, d]
  | .jrVc d => [0xE8, 0xD7, d]
  | .pushGg gg => [field 0xE8 (code16 gg), 0xD8]
  | .popGg gg => [field 0xE8 (code16 gg), 0xD9]
  | .daa g => [field 0xE8 (code8 g), 0xDA]
  | .das g => [field 0xE8 (code8 g), 0xDB]
  | .pushPsw => [0xE8, 0xDC]
  | .popPsw => [0xE8, 0xDD]
  | .ldPswN n => [0xE8, 0xDE, n]
  | .cplGB g b => [field 0xE8 (code8 g), field 0xE0 b]
  | .ldGBCf g b => [field 0xE8 (code8 g), field 0xE8 b]
  | .shlca gg => [field 0xE8 (code16 gg), 0xF0]
  | .shrca gg => [field 0xE8 (code16 gg), 0xF1]
  | .mul p => [field 0xE8 (codePair p), 0xF2]
  | .div p => [field 0xE8 (codePair p), 0xF3]
  | .shlc g => [field 0xE8 (code8 g), 0xF4]
  | .shrc g => [field 0xE8 (code8 g), 0xF5]
  | .rolc g => [field 0xE8 (code8 g), 0xF6]
  | .rorc g => [field 0xE8 (code8 g), 0xF7]
  | .negCs gg => [field 0xE8 (code16 gg), 0xFA]
  | .retn => [0xE8, 0xFB]
  | .callGg gg => [field 0xE8 (code16 gg), 0xFD]
  | .jpGg gg => [field 0xE8 (code16 gg), 0xFE]
  | .swap g => [field 0xE8 (code8 g), 0xFF]
  | .addcRSrc r m => srcPrefix m ++ [fieldMid 0x00 (code8 r)]
  | .addRSrc r m => srcPrefix m ++ [fieldMid 0x01 (code8 r)]
  | .subbRSrc r m => srcPrefix m ++ [fieldMid 0x02 (code8 r)]
  | .subRSrc r m => srcPrefix m ++ [fieldMid 0x03 (code8 r)]
  | .andRSrc r m => srcPrefix m ++ [fieldMid 0x04 (code8 r)]
  | .xorRSrc r m => srcPrefix m ++ [fieldMid 0x05 (code8 r)]
  | .orRSrc r m => srcPrefix m ++ [fieldMid 0x06 (code8 r)]
  | .cmpRSrc r m => srcPrefix m ++ [fieldMid 0x07 (code8 r)]
  | .ldRSrc r m => srcPrefix m ++ [field 0x40 (code8 r)]
  | .ldRrSrc rr m => srcPrefix m ++ [field 0x48 (code16 rr)]
  | .xorCfSrcB m b => srcPrefix m ++ [field 0x50 b]
  | .ldCfSrcB m b => srcPrefix m ++ [field 0x58 b]
  | .addcSrcN m n => srcPrefix m ++ [0x60, n]
  | .addSrcN m n => srcPrefix m ++ [0x61, n]
  | .subbSrcN m n => srcPrefix m ++ [0x62, n]
  | .subSrcN m n => srcPrefix m ++ [0x63, n]
  | .andSrcN m n => srcPrefix m ++ [0x64, n]
  | .xorSrcN m n => srcPrefix m ++ [0x65, n]
  | .orSrcN m n => srcPrefix m ++ [0x66, n]
  | .cmpSrcN m n => srcPrefix m ++ [0x67, n]
  | .ldDstRr m rr => dstPrefix m ++ [field 0x68 (code16 rr)]
  | .xchRSrc r m => srcPrefix m ++ [field 0x70 (code8 r)]
  | .ldDstR m r => dstPrefix m ++ [field 0x78 (code8 r)]
  | .addcRrSrc rr m => srcPrefix m ++ [fieldMid 0x80 (code16 rr)]
  | .addRrSrc rr m => srcPrefix m ++ [fieldMid 0x81 (code16 rr)]
  | .subbRrSrc rr m => srcPrefix m ++ [fieldMid 0x82 (code16 rr)]
  | .subRrSrc rr m => srcPrefix m ++ [fieldMid 0x83 (code16 rr)]
  | .andRrSrc rr m => srcPrefix m ++ [fieldMid 0x84 (code16 rr)]
  | .xorRrSrc rr m => srcPrefix m ++ [fieldMid 0x85 (code16 rr)]
  | .orRrSrc rr m => srcPrefix m ++ [fieldMid 0x86 (code16 rr)]
  | .cmpRrSrc rr m => srcPrefix m ++ [fieldMid 0x87 (code16 rr)]
  | .setSrcB m b => srcPrefix m ++ [field 0xC0 b]
  | .clrSrcB m b => srcPrefix m ++ [field 0xC8 b]
  | .xchRrSrc rr m => srcPrefix m ++ [field 0xD8 (code16 rr)]
  | .cplSrcB m b => srcPrefix m ++ [field 0xE0 b]
  | .ldSrcBCf m b => srcPrefix m ++ [field 0xE8 b]
  | .incSrc m => srcPrefix m ++ [0xF0]
  | .setSrcA m => srcPrefix m ++ [0xF2]
  | .ldSrcACf m => srcPrefix m ++ [0xF3]
  | .rold m => srcPrefix m ++ [0xF6]
  | .rord m => srcPrefix m ++ [0xF7]
  | .decSrc m => srcPrefix m ++ [0xF8]
  | .ldDstN m n => dstPrefix m ++ [0xF9, n]
  | .clrSrcA m => srcPrefix m ++ [0xFA]
  | .cplSrcA m => srcPrefix m ++ [0xFB]
  | .ldCfSrcA m => srcPrefix m ++ [0xFC]
  | .callSrc m => srcPrefix m ++ [0xFD]
  | .jpSrc m => srcPrefix m ++ [0xFE]

end Sys2Proof
end

