-- ==== Sys2Proof/Machine/Fetch.lean ====
section
/-! DEFINITION. Fetching an instruction's bytes from memory and decoding them (20_memory.md R65,
30_encoding.md R114), and the bytes of a program word placed in memory. -/

namespace Sys2Proof.Machine

/-- The decoding algorithm: one byte is read at address a, the next above the bytes already read
(modulo 65536), and so on until the decoder knows the instruction or that it is undefined; then k
(30_encoding.md R112, R114; log 25). `fuel` bounds the number of bytes; the longest instruction has
5, and five bytes always decode, so that the fault without fuel is never answered by `fetch`. -/
def fetchFrom (fuel : Nat) (a : Word) (read : List Byte) (s : State) (k : Instr → State → Result) :
    Result :=
  match fuel with
  | 0 => .fault (.undefinedInstruction read)
  | fuel + 1 =>
    loadByte a s fun b s =>
      match decode (read ++ [b]) with
      | .instr i => k i s
      | .more => fetchFrom fuel (a + 1) (read ++ [b]) s k
      | .undefined bytes => .fault (.undefinedInstruction bytes)

/-- The instruction at PC fetched and decoded, then k; PC stays at `$` (10_state.md R26, R27). -/
def fetch (s : State) (k : Instr → State → Result) : Result := fetchFrom 5 s.pc [] s k

/-- The five bytes of an instruction word: byte k is bits 8k+7 to 8k of w, for the bits below nbits;
every bit above is 0. -/
def wordBytes (nbits w : Nat) : List Byte :=
  (List.range 5).map fun k => BitVec.ofNat 8 ((w % 2 ^ nbits) / 2 ^ (8 * k))

/-- Bytes placed in memory from address a upwards, modulo 65536, whatever the regions. -/
def placeBytes : List Byte → Word → Memory → Memory
  | [], _, m => m
  | b :: bs, a, m => placeBytes bs (a + 1) (m.set a.toNat b)

/-- A byte may be fetched at an address without an effect (20_memory.md R59). -/
def plainAt (s : State) (a : Word) : Bool := s.kindAt a = .ram || s.kindAt a = .rom

/-- The five bytes from PC are such bytes. -/
def plainFetch (s : State) : Bool :=
  plainAt s s.pc && plainAt s (s.pc + 1) && plainAt s (s.pc + 2) && plainAt s (s.pc + 3)
    && plainAt s (s.pc + 4)

/-- The state whose next step fetches and runs the instruction whose bits are w: its bytes at PC,
nothing offered at this boundary, not at `halt_address`, and the default regions where the regions
do not let the bytes be fetched (log 28). -/
def placeWord (s : State) (nbits w : Nat) : State :=
  { s with
    mem := placeBytes (wordBytes nbits w) s.pc s.mem
    regions := if plainFetch s then s.regions else []
    haltAddress := if s.haltAddress = some s.pc then none else s.haltAddress
    schedule := match s.schedule with
      | [] => []
      | _ :: rest => [] :: rest }

end Sys2Proof.Machine
end

