-- ==== Sys2Proof/Machine/Step.lean ====
section
/-! DEFINITION. One step: one instruction boundary and, if nothing is accepted there, one
instruction. -/

namespace Sys2Proof.Machine

/-- One step (60_exceptions.md R461, R464, R477; 20_memory.md R62). At `halt_address` the run is
final. Else an accepted event is the step; else the instruction at PC is fetched and executed. -/
def step (s : State) : Host.Outcome State Fault Refusal :=
  if s.haltAddress = some s.pc then .refused .runEnded
  else acceptEvent s.offers s.pastOffers fun s => fetch s exec

/-- The state whose next step runs the instruction whose bits are w (log 4, log 28). -/
def State.withFetchWord (s : State) (nbits w : Nat) : State := placeWord s nbits w

end Sys2Proof.Machine
end

