-- ==== Sys2Proof/Machine/Timing.lean ====
section
/-! DEFINITION. The cycle counts the spec records (70_reset_and_hazards.md R490, R491): an annotation
that no step reads, since the spec keeps no clock and no instruction can read elapsed time
(92_eei_decisions.md D15; log 26). -/

namespace Sys2Proof.Machine

/-- The cycles of an instruction: when a conditional jump is taken, and when it is not; the same
number twice for every other instruction (R490). -/
structure Cycles where
  taken : Nat
  notTaken : Nat
  deriving DecidableEq, Repr

namespace Timing

/-- One number in every case. -/
def fixed (n : Nat) : Option Cycles := some { taken := n, notTaken := n }

/-- Two numbers: jump taken, jump not taken. -/
def branch (t f : Nat) : Option Cycles := some { taken := t, notTaken := f }

/-- What a source mode adds to the register indirect modes (R491). -/
def srcExtra : Src → Nat
  | .dir8 _ => 1
  | .dir16 _ => 2
  | .de => 0
  | .hl => 0
  | .ix => 0
  | .iy => 0
  | .incSp => 1
  | .hlC => 2
  | .ixD _ => 2
  | .iyD _ => 2
  | .spD _ => 2
  | .hlD _ => 2
  | .pcA => 2

/-- What a destination mode adds to the register indirect modes (R491). -/
def dstExtra : Dst → Nat
  | .dir8 _ => 1
  | .dir16 _ => 2
  | .de => 0
  | .hl => 0
  | .ix => 0
  | .iy => 0
  | .spDec => 1
  | .hlC => 2
  | .ixD _ => 2
  | .iyD _ => 2
  | .spD _ => 2
  | .hlD _ => 2

/-- A form of a source operand whose register indirect modes take `base` cycles. -/
def srcCycles (base : Nat) (m : Src) : Option Cycles := fixed (base + srcExtra m)

/-- The same where the source gives no cycle count for the long form with `(x)`
(30_encoding.md R110). -/
def srcCyclesNotX (base : Nat) (m : Src) : Option Cycles :=
  match m with
  | .dir8 _ => none
  | _ => srcCycles base m

/-- A form of a destination operand whose register indirect modes take `base` cycles. -/
def dstCycles (base : Nat) (m : Dst) : Option Cycles := fixed (base + dstExtra m)

/-- The same where the source gives no cycle count for the long forms with `(x)` and `(HL)`
(30_encoding.md R110). -/
def dstCyclesNotXHl (base : Nat) (m : Dst) : Option Cycles :=
  match m with
  | .dir8 _ => none
  | .hl => none
  | _ => dstCycles base m

end Timing

open Timing in
/-- The cycle count of an instruction, from its own rule (40 R131 to R173; 41 R202 to R244; 42 R261
to R295; 43 R331 to R340; 44 R351 to R393; 45 R401 to R422; 46 R432 to R444); none where the spec
gives none: undefined encodings and the long forms of 30_encoding.md R110. -/
def cycles : Instr → Option Cycles
  | .prefixReg _ _ => none
  | .prefixSrcX _ _ => none
  | .prefixSrcVw _ _ => none
  | .prefixSrcDe _ => none
  | .prefixSrcHl _ => none
  | .prefixSrcIx _ => none
  | .prefixSrcIy _ => none
  | .prefixSrcIncSp _ => none
  | .prefixSrcHlC _ => none
  | .prefixSrcIxD _ _ => none
  | .prefixSrcIyD _ _ => none
  | .prefixSrcSpD _ _ => none
  | .prefixSrcHlD _ _ => none
  | .prefixSrcPcA _ => none
  | .prefixDstX _ _ => none
  | .prefixDstVw _ _ => none
  | .prefixDstDe _ => none
  | .prefixDstHl _ => none
  | .prefixDstIx _ => none
  | .prefixDstIy _ => none
  | .prefixDstSpDec _ => none
  | .prefixDstHlC _ => none
  | .prefixDstIxD _ _ => none
  | .prefixDstIyD _ _ => none
  | .prefixDstSpD _ _ => none
  | .prefixDstHlD _ _ => none
  | .nop => fixed 1
  | .clrCf => fixed 1
  | .setCf => fixed 1
  | .cplCf => fixed 1
  | .cmpXN _ _ => fixed 4
  | .ldwXMn _ _ => fixed 6
  | .ldwHlMn _ => fixed 5
  | .ldXN _ _ => fixed 4
  | .ldHlN _ => fixed 3
  | .ldAX _ => fixed 3
  | .ldAHl => fixed 2
  | .ldXA _ => fixed 3
  | .ldHlA => fixed 2
  | .ldAR _ => fixed 1
  | .ldRN _ _ => fixed 2
  | .incR _ => fixed 1
  | .decR _ => fixed 1
  | .incRr _ => fixed 2
  | .decRr _ => fixed 2
  | .ldSpPlusD _ => fixed 3
  | .ldSpMinusD _ => fixed 3
  | .ldRA _ => fixed 1
  | .ldRrMn _ _ => fixed 3
  | .pushRr _ => fixed 3
  | .ldCfXB _ _ => fixed 4
  | .addcAN _ => fixed 2
  | .addcRG _ _ => fixed 2
  | .addcGN _ _ => fixed 3
  | .addcGgMn _ _ => fixed 4
  | .addcRrGg _ _ => fixed 4
  | .addcRSrc _ m => srcCycles 3 m
  | .addcSrcN m _ => srcCycles 5 m
  | .addcRrSrc _ m => srcCycles 5 m
  | .addAN _ => fixed 2
  | .addRG _ _ => fixed 2
  | .addGN _ _ => fixed 3
  | .addGgMn _ _ => fixed 4
  | .addRrGg _ _ => fixed 4
  | .addRSrc _ m => srcCycles 3 m
  | .addSrcN m _ => srcCycles 5 m
  | .addRrSrc _ m => srcCycles 5 m
  | .subbAN _ => fixed 2
  | .subbRG _ _ => fixed 2
  | .subbGN _ _ => fixed 3
  | .subbGgMn _ _ => fixed 4
  | .subbRrGg _ _ => fixed 4
  | .subbRSrc _ m => srcCycles 3 m
  | .subbSrcN m _ => srcCycles 5 m
  | .subbRrSrc _ m => srcCycles 5 m
  | .subAN _ => fixed 2
  | .subRG _ _ => fixed 2
  | .subGN _ _ => fixed 3
  | .subGgMn _ _ => fixed 4
  | .subRrGg _ _ => fixed 4
  | .subRSrc _ m => srcCycles 3 m
  | .subSrcN m _ => srcCycles 5 m
  | .subRrSrc _ m => srcCycles 5 m
  | .andAN _ => fixed 2
  | .andRG _ _ => fixed 2
  | .andGN _ _ => fixed 3
  | .andGgMn _ _ => fixed 4
  | .andRrGg _ _ => fixed 4
  | .andRSrc _ m => srcCycles 3 m
  | .andSrcN m _ => srcCycles 5 m
  | .andRrSrc _ m => srcCycles 5 m
  | .xorAN _ => fixed 2
  | .xorRG _ _ => fixed 2
  | .xorGN _ _ => fixed 3
  | .xorGgMn _ _ => fixed 4
  | .xorRrGg _ _ => fixed 4
  | .xorRSrc _ m => srcCycles 3 m
  | .xorSrcN m _ => srcCycles 5 m
  | .xorRrSrc _ m => srcCycles 5 m
  | .orAN _ => fixed 2
  | .orRG _ _ => fixed 2
  | .orGN _ _ => fixed 3
  | .orGgMn _ _ => fixed 4
  | .orRrGg _ _ => fixed 4
  | .orRSrc _ m => srcCycles 3 m
  | .orSrcN m _ => srcCycles 5 m
  | .orRrSrc _ m => srcCycles 5 m
  | .cmpAN _ => fixed 2
  | .cmpRG _ _ => fixed 2
  | .cmpGN _ _ => fixed 3
  | .cmpGgMn _ _ => fixed 4
  | .cmpRrGg _ _ => fixed 4
  | .cmpRSrc _ m => srcCycles 3 m
  | .cmpSrcN m _ => srcCyclesNotX 4 m
  | .cmpRrSrc _ m => srcCycles 5 m
  | .callv _ => fixed 7
  | .jrsT _ => branch 4 2
  | .jrsF _ => branch 4 2
  | .setXB _ _ => fixed 5
  | .clrXB _ _ => fixed 5
  | .popRr _ => fixed 4
  | .jrZ _ => branch 4 2
  | .jrNz _ => branch 4 2
  | .jrCs _ => branch 4 2
  | .jrCc _ => branch 4 2
  | .jrLe _ => branch 4 2
  | .jrGt _ => branch 4 2
  | .jrT _ => branch 4 2
  | .jrF _ => branch 4 2
  | .ret => fixed 6
  | .reti => fixed 6
  | .jr _ => fixed 4
  | .callMn _ => fixed 6
  | .jpMn _ => fixed 4
  | .swi => fixed 9
  | .ei => fixed 5
  | .di => fixed 5
  | .ldRG _ _ => fixed 2
  | .ldRrGg _ _ => fixed 2
  | .xorCfGB _ _ => fixed 2
  | .ldCfGB _ _ => fixed 2
  | .xchRG _ _ => fixed 3
  | .xchRrGg _ _ => fixed 3
  | .setGB _ _ => fixed 3
  | .clrGB _ _ => fixed 3
  | .jrM _ => branch 5 3
  | .jrP _ => branch 5 3
  | .jrSlt _ => branch 5 3
  | .jrSge _ => branch 5 3
  | .jrSle _ => branch 5 3
  | .jrSgt _ => branch 5 3
  | .jrVs _ => branch 5 3
  | .jrVc _ => branch 5 3
  | .pushGg _ => fixed 4
  | .popGg _ => fixed 5
  | .daa _ => fixed 2
  | .das _ => fixed 2
  | .pushPsw => fixed 3
  | .popPsw => fixed 4
  | .ldPswN _ => fixed 3
  | .cplGB _ _ => fixed 3
  | .ldGBCf _ _ => fixed 2
  | .shlca _ => fixed 3
  | .shrca _ => fixed 3
  | .mul _ => fixed 8
  | .div _ => fixed 8
  | .shlc _ => fixed 2
  | .shrc _ => fixed 2
  | .rolc _ => fixed 2
  | .rorc _ => fixed 2
  | .negCs _ => fixed 3
  | .retn => fixed 7
  | .callGg _ => fixed 6
  | .jpGg _ => fixed 3
  | .swap _ => fixed 4
  | .ldRSrc _ m => srcCycles 3 m
  | .ldRrSrc _ m => srcCycles 4 m
  | .xorCfSrcB m _ => srcCycles 3 m
  | .ldCfSrcB m _ => srcCyclesNotX 3 m
  | .ldDstRr m _ => dstCycles 4 m
  | .xchRSrc _ m => srcCycles 4 m
  | .ldDstR m _ => dstCycles 3 m
  | .setSrcB m _ => srcCyclesNotX 4 m
  | .clrSrcB m _ => srcCyclesNotX 4 m
  | .xchRrSrc _ m => srcCycles 6 m
  | .cplSrcB m _ => srcCycles 4 m
  | .ldSrcBCf m _ => srcCycles 4 m
  | .incSrc m => srcCycles 4 m
  | .setSrcA m => srcCycles 4 m
  | .ldSrcACf m => srcCycles 4 m
  | .rold m => srcCycles 7 m
  | .rord m => srcCycles 7 m
  | .decSrc m => srcCycles 4 m
  | .ldDstN m _ => dstCyclesNotXHl 4 m
  | .clrSrcA m => srcCycles 4 m
  | .cplSrcA m => srcCycles 4 m
  | .ldCfSrcA m => srcCycles 3 m
  | .callSrc m => srcCycles 8 m
  | .jpSrc m => srcCycles 5 m

end Sys2Proof.Machine
end

