-- ==== Sys2Proof/Machine/Effects.lean ====
section
/-! DEFINITION. What each instruction may change, as tables: the flag columns of 10_state.md R38, the
registers and the bytes of memory an instruction writes, the bytes it loads, the instructions that
transfer control. No
step reads them; claims speak of them. -/

namespace Sys2Proof.Machine

/-! ## Flags -/

/-- An entry of a flag column (10_state.md R38). -/
inductive Column where
  /-- `–`: unchanged -/
  | keep
  /-- `1` -/
  | one
  /-- `0` -/
  | zero
  /-- a value of the instruction's own: `Z`, `C`, `H`, `S`, `V`, `U`, `*` -/
  | new
  deriving DecidableEq, Repr

/-- A row of the flag columns (10_state.md R38). -/
structure FlagRow where
  jf : Column
  zf : Column
  cf : Column
  hf : Column
  sf : Column
  vf : Column
  deriving DecidableEq, Repr

/-- A row in the order of R38's columns: JF, ZF, CF, HF, SF, VF. -/
def row (jf zf cf hf sf vf : Column) : FlagRow :=
  { jf := jf, zf := zf, cf := cf, hf := hf, sf := sf, vf := vf }

/-- The row `– – – – – –`. -/
def stay : FlagRow := row .keep .keep .keep .keep .keep .keep

/-- The flag columns of an instruction (10_state.md R38); those of a prefix row say nothing, since it
has no next state. -/
def flagRow : Instr → FlagRow
  | .prefixReg _ _ | .prefixSrcX _ _ | .prefixSrcVw _ _ | .prefixSrcDe _ | .prefixSrcHl _
  | .prefixSrcIx _ | .prefixSrcIy _ | .prefixSrcIncSp _ | .prefixSrcHlC _ | .prefixSrcIxD _ _
  | .prefixSrcIyD _ _ | .prefixSrcSpD _ _ | .prefixSrcHlD _ _ | .prefixSrcPcA _ | .prefixDstX _ _
  | .prefixDstVw _ _ | .prefixDstDe _ | .prefixDstHl _ | .prefixDstIx _ | .prefixDstIy _
  | .prefixDstSpDec _ | .prefixDstHlC _ | .prefixDstIxD _ _ | .prefixDstIyD _ _
  | .prefixDstSpD _ _ | .prefixDstHlD _ _ => stay
  | .ldAX _ | .ldAHl | .ldAR _ | .ldRA _ | .ldRG _ _ | .xchRG _ _ | .ldRSrc _ _ | .xchRSrc _ _ =>
    row .one .new .keep .keep .keep .keep
  | .ldwXMn _ _ | .ldwHlMn _ | .ldXN _ _ | .ldHlN _ | .ldXA _ | .ldHlA | .ldRN _ _ | .ldSpPlusD _
  | .ldSpMinusD _ | .ldRrMn _ _ | .jrsT _ | .jrsF _ | .jrZ _ | .jrNz _ | .jrCs _ | .jrCc _
  | .jrLe _ | .jrGt _ | .jrT _ | .jrF _ | .jr _ | .ldRrGg _ _ | .xchRrGg _ _ | .jrM _ | .jrP _
  | .jrSlt _ | .jrSge _ | .jrSle _ | .jrSgt _ | .jrVs _ | .jrVc _ | .ldGBCf _ _ | .negCs _
  | .swap _ | .ldRrSrc _ _ | .ldDstRr _ _ | .ldDstR _ _ | .xchRrSrc _ _ | .ldSrcBCf _ _
  | .ldSrcACf _ | .rold _ | .rord _ | .ldDstN _ _ => row .one .keep .keep .keep .keep .keep
  | .nop | .pushRr _ | .callv _ | .popRr _ | .ret | .callMn _ | .jpMn _ | .swi | .pushGg _
  | .popGg _ | .pushPsw | .callGg _ | .jpGg _ | .callSrc _ | .jpSrc _ => stay
  | .cmpXN _ _ | .addcAN _ | .addcRG _ _ | .addcGN _ _ | .addcGgMn _ _ | .addcRrGg _ _
  | .addcRSrc _ _ | .addcSrcN _ _ | .addcRrSrc _ _ | .addAN _ | .addRG _ _ | .addGN _ _
  | .addGgMn _ _ | .addRrGg _ _ | .addRSrc _ _ | .addSrcN _ _ | .addRrSrc _ _ | .subbAN _
  | .subbRG _ _ | .subbGN _ _ | .subbGgMn _ _ | .subbRrGg _ _ | .subbRSrc _ _ | .subbSrcN _ _
  | .subbRrSrc _ _ | .subAN _ | .subRG _ _ | .subGN _ _ | .subGgMn _ _ | .subRrGg _ _
  | .subRSrc _ _ | .subSrcN _ _ | .subRrSrc _ _ | .cmpAN _ | .cmpRG _ _ | .cmpGN _ _
  | .cmpGgMn _ _ | .cmpRrGg _ _ | .cmpRSrc _ _ | .cmpSrcN _ _ | .cmpRrSrc _ _ | .reti | .popPsw
  | .ldPswN _ | .retn => row .new .new .new .new .new .new
  | .incR _ | .decR _ | .incRr _ | .decRr _ | .andAN _ | .andRG _ _ | .andGN _ _ | .andGgMn _ _
  | .andRrGg _ _ | .andRSrc _ _ | .andSrcN _ _ | .andRrSrc _ _ | .xorAN _ | .xorRG _ _
  | .xorGN _ _ | .xorGgMn _ _ | .xorRrGg _ _ | .xorRSrc _ _ | .xorSrcN _ _ | .xorRrSrc _ _
  | .orAN _ | .orRG _ _ | .orGN _ _ | .orGgMn _ _ | .orRrGg _ _ | .orRSrc _ _ | .orSrcN _ _
  | .orRrSrc _ _ | .setXB _ _ | .clrXB _ _ | .ei | .di | .setGB _ _ | .clrGB _ _ | .cplGB _ _
  | .mul _ | .setSrcB _ _ | .clrSrcB _ _ | .cplSrcB _ _ | .incSrc _ | .setSrcA _ | .decSrc _
  | .clrSrcA _ | .cplSrcA _ => row .new .new .keep .keep .keep .keep
  | .daa _ | .das _ => row .new .new .new .new .keep .keep
  | .div _ | .shlc _ | .shrc _ | .rolc _ | .rorc _ => row .new .new .new .keep .keep .keep
  | .shlca _ => row .new .new .new .keep .new .new
  | .shrca _ => row .new .new .new .keep .new .zero
  | .cplCf | .ldCfXB _ _ | .xorCfGB _ _ | .ldCfGB _ _ | .xorCfSrcB _ _ | .ldCfSrcB _ _
  | .ldCfSrcA _ => row .new .keep .new .keep .keep .keep
  | .setCf => row .zero .keep .one .keep .keep .keep
  | .clrCf => row .one .keep .zero .keep .keep .keep

/-- A flag's old and new value agree with its column. -/
def Column.holds (c : Column) (old new : Bool) : Prop :=
  match c with
  | .keep => new = old
  | .one => new = true
  | .zero => new = false
  | .new => True

/-- The old and new flags agree with a row. -/
def FlagRow.holds (r : FlagRow) (p q : Psw) : Prop :=
  r.jf.holds p.jf q.jf ∧ r.zf.holds p.zf q.zf ∧ r.cf.holds p.cf q.cf ∧ r.hf.holds p.hf q.hf
    ∧ r.sf.holds p.sf q.sf ∧ r.vf.holds p.vf q.vf

/-! ## Registers -/

/-- A register with storage of its own (10_state.md R20, R23). -/
inductive Storage where
  | byte (r : Reg8)
  | ix
  | iy
  | sp
  deriving DecidableEq, Repr

/-- The storage of a 16-bit register (10_state.md R22, R23). -/
def halves : Reg16 → List Storage
  | .wa => [.byte .w, .byte .a]
  | .bc => [.byte .b, .byte .c]
  | .de => [.byte .d, .byte .e]
  | .hl => [.byte .h, .byte .l]
  | .ix => [.ix]
  | .iy => [.iy]
  | .sp => [.sp]
  | .hl7 => [.byte .h, .byte .l]

/-- The register a source mode moves (30_encoding.md R89). -/
def srcMoves (m : Src) : List Storage := if m = .incSp then [.sp] else []

/-- The register a destination mode moves (30_encoding.md R90). -/
def dstMoves (m : Dst) : List Storage := if m = .spDec then [.sp] else []

/-- The registers an instruction may write; PC apart. -/
def writes : Instr → List Storage
  | .prefixReg _ _ | .prefixSrcX _ _ | .prefixSrcVw _ _ | .prefixSrcDe _ | .prefixSrcHl _
  | .prefixSrcIx _ | .prefixSrcIy _ | .prefixSrcIncSp _ | .prefixSrcHlC _ | .prefixSrcIxD _ _
  | .prefixSrcIyD _ _ | .prefixSrcSpD _ _ | .prefixSrcHlD _ _ | .prefixSrcPcA _ | .prefixDstX _ _
  | .prefixDstVw _ _ | .prefixDstDe _ | .prefixDstHl _ | .prefixDstIx _ | .prefixDstIy _
  | .prefixDstSpDec _ | .prefixDstHlC _ | .prefixDstIxD _ _ | .prefixDstIyD _ _
  | .prefixDstSpD _ _ | .prefixDstHlD _ _ => []
  | .nop | .clrCf | .setCf | .cplCf | .cmpXN _ _ | .ldwXMn _ _ | .ldwHlMn _ | .ldXN _ _
  | .ldHlN _ | .ldXA _ | .ldHlA | .ldCfXB _ _ | .cmpAN _ | .cmpRG _ _ | .cmpGN _ _ | .cmpGgMn _ _
  | .cmpRrGg _ _ | .jrsT _ | .jrsF _ | .setXB _ _ | .clrXB _ _ | .jrZ _ | .jrNz _ | .jrCs _
  | .jrCc _ | .jrLe _ | .jrGt _ | .jrT _ | .jrF _ | .jr _ | .jpMn _ | .ei | .di | .xorCfGB _ _
  | .ldCfGB _ _ | .jrM _ | .jrP _ | .jrSlt _ | .jrSge _ | .jrSle _ | .jrSgt _ | .jrVs _ | .jrVc _
  | .ldPswN _ | .jpGg _ => []
  | .ldAX _ | .ldAHl | .ldAR _ | .addcAN _ | .addAN _ | .subbAN _ | .subAN _ | .andAN _
  | .xorAN _ | .orAN _ => [.byte .a]
  | .ldRN r _ | .incR r | .decR r | .ldRA r | .addcRG r _ | .addRG r _ | .subbRG r _ | .subRG r _
  | .andRG r _ | .xorRG r _ | .orRG r _ | .ldRG r _ => [.byte r]
  | .addcGN g _ | .addGN g _ | .subbGN g _ | .subGN g _ | .andGN g _ | .xorGN g _ | .orGN g _
  | .setGB g _ | .clrGB g _ | .daa g | .das g | .cplGB g _ | .ldGBCf g _ | .shlc g | .shrc g
  | .rolc g | .rorc g | .swap g => [.byte g]
  | .incRr rr | .decRr rr | .ldRrMn rr _ | .addcRrGg rr _ | .addRrGg rr _ | .subbRrGg rr _
  | .subRrGg rr _ | .andRrGg rr _ | .xorRrGg rr _ | .orRrGg rr _ | .ldRrGg rr _ => halves rr
  | .addcGgMn gg _ | .addGgMn gg _ | .subbGgMn gg _ | .subGgMn gg _ | .andGgMn gg _
  | .xorGgMn gg _ | .orGgMn gg _ | .shlca gg | .shrca gg | .negCs gg => halves gg
  | .xchRG r g => [.byte r, .byte g]
  | .xchRrGg rr gg => halves rr ++ halves gg
  | .mul p | .div p => halves (pairReg p)
  | .ldSpPlusD _ | .ldSpMinusD _ | .pushRr _ | .callv _ | .ret | .reti | .callMn _ | .swi
  | .pushGg _ | .pushPsw | .popPsw | .retn | .callGg _ | .callSrc _ => [.sp]
  | .popRr p => .sp :: halves (pairReg p)
  | .popGg gg => .sp :: halves gg
  | .addcRSrc r m | .addRSrc r m | .subbRSrc r m | .subRSrc r m | .andRSrc r m | .xorRSrc r m
  | .orRSrc r m | .ldRSrc r m | .xchRSrc r m => .byte r :: srcMoves m
  | .addcRrSrc rr m | .addRrSrc rr m | .subbRrSrc rr m | .subRrSrc rr m | .andRrSrc rr m
  | .xorRrSrc rr m | .orRrSrc rr m | .ldRrSrc rr m | .xchRrSrc rr m => halves rr ++ srcMoves m
  | .rold m | .rord m => .byte .a :: srcMoves m
  | .addcSrcN m _ | .addSrcN m _ | .subbSrcN m _ | .subSrcN m _ | .andSrcN m _ | .xorSrcN m _
  | .orSrcN m _ | .cmpRSrc _ m | .cmpSrcN m _ | .cmpRrSrc _ m | .xorCfSrcB m _ | .ldCfSrcB m _
  | .setSrcB m _ | .clrSrcB m _ | .cplSrcB m _ | .ldSrcBCf m _ | .incSrc m | .setSrcA m
  | .ldSrcACf m | .decSrc m | .clrSrcA m | .cplSrcA m | .ldCfSrcA m | .jpSrc m => srcMoves m
  | .ldDstRr m _ | .ldDstR m _ | .ldDstN m _ => dstMoves m

/-- Two register files hold the same in a register. -/
def Storage.same (x : Storage) (g h : Regs) : Prop :=
  match x with
  | .byte r => h.get8 r = g.get8 r
  | .ix => h.ix = g.ix
  | .iy => h.iy = g.iy
  | .sp => h.sp = g.sp

/-! ## Memory -/

/-- The addresses of the bytes an instruction stores to in a state. -/
def storedAt (i : Instr) (s : State) : List Word :=
  match i with
  | .ldXN x _ | .ldXA x | .setXB _ x | .clrXB _ x => [zext16 x]
  | .ldwXMn x _ => [zext16 x, zext16 x + 1]
  | .ldHlN _ | .ldHlA => [s.get16 .hl]
  | .ldwHlMn _ => [s.get16 .hl, s.get16 .hl + 1]
  | .ldDstR m _ | .ldDstN m _ => [dstAddr m s]
  | .ldDstRr m _ => [dstAddr m s, dstAddr m s + 1]
  | .addcSrcN m _ | .addSrcN m _ | .subbSrcN m _ | .subSrcN m _ | .andSrcN m _ | .xorSrcN m _
  | .orSrcN m _ | .xchRSrc _ m | .setSrcB m _ | .clrSrcB m _ | .cplSrcB m _ | .ldSrcBCf m _
  | .incSrc m | .setSrcA m | .ldSrcACf m | .rold m | .rord m | .decSrc m | .clrSrcA m
  | .cplSrcA m => [srcAddr m s]
  | .xchRrSrc _ m => [srcAddr m s, srcAddr m s + 1]
  | .reti | .ei | .di | .retn => [imfAddress]
  | .pushPsw => [s.sp]
  | .pushRr _ | .callv _ | .callMn _ | .pushGg _ | .callGg _ => [s.sp, s.sp - 1]
  | .callSrc m => if m = .incSp then [s.sp, s.sp + 1] else [s.sp, s.sp - 1]
  | .swi => [s.sp, s.sp - 1, s.sp - 2, imfAddress]
  | .prefixReg _ _ | .prefixSrcX _ _ | .prefixSrcVw _ _ | .prefixSrcDe _ | .prefixSrcHl _
  | .prefixSrcIx _ | .prefixSrcIy _ | .prefixSrcIncSp _ | .prefixSrcHlC _ | .prefixSrcIxD _ _
  | .prefixSrcIyD _ _ | .prefixSrcSpD _ _ | .prefixSrcHlD _ _ | .prefixSrcPcA _ | .prefixDstX _ _
  | .prefixDstVw _ _ | .prefixDstDe _ | .prefixDstHl _ | .prefixDstIx _ | .prefixDstIy _
  | .prefixDstSpDec _ | .prefixDstHlC _ | .prefixDstIxD _ _ | .prefixDstIyD _ _
  | .prefixDstSpD _ _ | .prefixDstHlD _ _ | .nop | .clrCf | .setCf | .cplCf | .cmpXN _ _
  | .ldAX _ | .ldAHl | .ldAR _ | .ldRN _ _ | .incR _ | .decR _ | .incRr _ | .decRr _
  | .ldSpPlusD _ | .ldSpMinusD _ | .ldRA _ | .ldRrMn _ _ | .ldCfXB _ _ | .addcAN _ | .addcRG _ _
  | .addcGN _ _ | .addcGgMn _ _ | .addcRrGg _ _ | .addcRSrc _ _ | .addcRrSrc _ _ | .addAN _
  | .addRG _ _ | .addGN _ _ | .addGgMn _ _ | .addRrGg _ _ | .addRSrc _ _ | .addRrSrc _ _
  | .subbAN _ | .subbRG _ _ | .subbGN _ _ | .subbGgMn _ _ | .subbRrGg _ _ | .subbRSrc _ _
  | .subbRrSrc _ _ | .subAN _ | .subRG _ _ | .subGN _ _ | .subGgMn _ _ | .subRrGg _ _
  | .subRSrc _ _ | .subRrSrc _ _ | .andAN _ | .andRG _ _ | .andGN _ _ | .andGgMn _ _
  | .andRrGg _ _ | .andRSrc _ _ | .andRrSrc _ _ | .xorAN _ | .xorRG _ _ | .xorGN _ _
  | .xorGgMn _ _ | .xorRrGg _ _ | .xorRSrc _ _ | .xorRrSrc _ _ | .orAN _ | .orRG _ _ | .orGN _ _
  | .orGgMn _ _ | .orRrGg _ _ | .orRSrc _ _ | .orRrSrc _ _ | .cmpAN _ | .cmpRG _ _ | .cmpGN _ _
  | .cmpGgMn _ _ | .cmpRrGg _ _ | .cmpRSrc _ _ | .cmpSrcN _ _ | .cmpRrSrc _ _ | .jrsT _ | .jrsF _
  | .popRr _ | .jrZ _ | .jrNz _ | .jrCs _ | .jrCc _ | .jrLe _ | .jrGt _ | .jrT _ | .jrF _ | .ret
  | .jr _ | .jpMn _ | .ldRG _ _ | .ldRrGg _ _ | .xorCfGB _ _ | .ldCfGB _ _ | .xchRG _ _
  | .xchRrGg _ _ | .setGB _ _ | .clrGB _ _ | .jrM _ | .jrP _ | .jrSlt _ | .jrSge _ | .jrSle _
  | .jrSgt _ | .jrVs _ | .jrVc _ | .popGg _ | .daa _ | .das _ | .popPsw | .ldPswN _ | .cplGB _ _
  | .ldGBCf _ _ | .shlca _ | .shrca _ | .mul _ | .div _ | .shlc _ | .shrc _ | .rolc _ | .rorc _
  | .negCs _ | .jpGg _ | .swap _ | .ldRSrc _ _ | .ldRrSrc _ _ | .xorCfSrcB _ _ | .ldCfSrcB _ _
  | .ldCfSrcA _ | .jpSrc _ => []

/-- The addresses of the bytes an instruction loads in a state, its own bytes apart. -/
def loadedFrom (i : Instr) (s : State) : List Word :=
  match i with
  | .cmpXN x _ | .ldAX x | .ldCfXB _ x | .setXB _ x | .clrXB _ x => [zext16 x]
  | .ldAHl => [s.get16 .hl]
  | .addcRSrc _ m | .addcSrcN m _ | .addRSrc _ m | .addSrcN m _ | .subbRSrc _ m | .subbSrcN m _
  | .subRSrc _ m | .subSrcN m _ | .andRSrc _ m | .andSrcN m _ | .xorRSrc _ m | .xorSrcN m _
  | .orRSrc _ m | .orSrcN m _ | .cmpRSrc _ m | .cmpSrcN m _ | .ldRSrc _ m | .xorCfSrcB m _
  | .ldCfSrcB m _ | .xchRSrc _ m | .setSrcB m _ | .clrSrcB m _ | .cplSrcB m _ | .ldSrcBCf m _
  | .incSrc m | .setSrcA m | .ldSrcACf m | .rold m | .rord m | .decSrc m | .clrSrcA m
  | .cplSrcA m | .ldCfSrcA m => [srcAddr m s]
  | .addcRrSrc _ m | .addRrSrc _ m | .subbRrSrc _ m | .subRrSrc _ m | .andRrSrc _ m
  | .xorRrSrc _ m | .orRrSrc _ m | .cmpRrSrc _ m | .ldRrSrc _ m | .xchRrSrc _ m | .callSrc m
  | .jpSrc m => [srcAddr m s, srcAddr m s + 1]
  | .ei | .di => [imfAddress]
  | .popRr _ | .ret | .popGg _ => [s.sp + 1, s.sp + 2]
  | .popPsw => [s.sp + 1]
  | .reti | .retn => [s.sp + 1, s.sp + 2, s.sp + 3, imfAddress]
  | .callv n => [callVector n, callVector n + 1]
  | .swi => [imfAddress, swiVector, swiVector + 1]
  | .prefixReg _ _ | .prefixSrcX _ _ | .prefixSrcVw _ _ | .prefixSrcDe _ | .prefixSrcHl _
  | .prefixSrcIx _ | .prefixSrcIy _ | .prefixSrcIncSp _ | .prefixSrcHlC _ | .prefixSrcIxD _ _
  | .prefixSrcIyD _ _ | .prefixSrcSpD _ _ | .prefixSrcHlD _ _ | .prefixSrcPcA _ | .prefixDstX _ _
  | .prefixDstVw _ _ | .prefixDstDe _ | .prefixDstHl _ | .prefixDstIx _ | .prefixDstIy _
  | .prefixDstSpDec _ | .prefixDstHlC _ | .prefixDstIxD _ _ | .prefixDstIyD _ _
  | .prefixDstSpD _ _ | .prefixDstHlD _ _ | .nop | .clrCf | .setCf | .cplCf | .ldwXMn _ _
  | .ldwHlMn _ | .ldXN _ _ | .ldHlN _ | .ldXA _ | .ldHlA | .ldAR _ | .ldRN _ _ | .incR _
  | .decR _ | .incRr _ | .decRr _ | .ldSpPlusD _ | .ldSpMinusD _ | .ldRA _ | .ldRrMn _ _
  | .pushRr _ | .addcAN _ | .addcRG _ _ | .addcGN _ _ | .addcGgMn _ _ | .addcRrGg _ _ | .addAN _
  | .addRG _ _ | .addGN _ _ | .addGgMn _ _ | .addRrGg _ _ | .subbAN _ | .subbRG _ _ | .subbGN _ _
  | .subbGgMn _ _ | .subbRrGg _ _ | .subAN _ | .subRG _ _ | .subGN _ _ | .subGgMn _ _
  | .subRrGg _ _ | .andAN _ | .andRG _ _ | .andGN _ _ | .andGgMn _ _ | .andRrGg _ _ | .xorAN _
  | .xorRG _ _ | .xorGN _ _ | .xorGgMn _ _ | .xorRrGg _ _ | .orAN _ | .orRG _ _ | .orGN _ _
  | .orGgMn _ _ | .orRrGg _ _ | .cmpAN _ | .cmpRG _ _ | .cmpGN _ _ | .cmpGgMn _ _ | .cmpRrGg _ _
  | .jrsT _ | .jrsF _ | .jrZ _ | .jrNz _ | .jrCs _ | .jrCc _ | .jrLe _ | .jrGt _ | .jrT _
  | .jrF _ | .jr _ | .callMn _ | .jpMn _ | .ldRG _ _ | .ldRrGg _ _ | .xorCfGB _ _ | .ldCfGB _ _
  | .xchRG _ _ | .xchRrGg _ _ | .setGB _ _ | .clrGB _ _ | .jrM _ | .jrP _ | .jrSlt _ | .jrSge _
  | .jrSle _ | .jrSgt _ | .jrVs _ | .jrVc _ | .pushGg _ | .daa _ | .das _ | .pushPsw | .ldPswN _
  | .cplGB _ _ | .ldGBCf _ _ | .shlca _ | .shrca _ | .mul _ | .div _ | .shlc _ | .shrc _
  | .rolc _ | .rorc _ | .negCs _ | .callGg _ | .jpGg _ | .swap _ | .ldDstRr _ _ | .ldDstR _ _
  | .ldDstN _ _ => []

/-! ## PC -/

/-- The instructions whose next state may have PC elsewhere than after their own bytes: the jumps,
calls, returns and SWI (45_jump.md, 46_call_return_swi_nop.md). -/
def transfersControl : Instr → Bool
  | .callv _ | .jrsT _ | .jrsF _ | .jrZ _ | .jrNz _ | .jrCs _ | .jrCc _ | .jrLe _ | .jrGt _
  | .jrT _ | .jrF _ | .ret | .reti | .jr _ | .callMn _ | .jpMn _ | .swi | .jrM _ | .jrP _
  | .jrSlt _ | .jrSge _ | .jrSle _ | .jrSgt _ | .jrVs _ | .jrVc _ | .retn | .callGg _ | .jpGg _
  | .callSrc _ | .jpSrc _ => true
  | .prefixReg _ _ | .prefixSrcX _ _ | .prefixSrcVw _ _ | .prefixSrcDe _ | .prefixSrcHl _
  | .prefixSrcIx _ | .prefixSrcIy _ | .prefixSrcIncSp _ | .prefixSrcHlC _ | .prefixSrcIxD _ _
  | .prefixSrcIyD _ _ | .prefixSrcSpD _ _ | .prefixSrcHlD _ _ | .prefixSrcPcA _ | .prefixDstX _ _
  | .prefixDstVw _ _ | .prefixDstDe _ | .prefixDstHl _ | .prefixDstIx _ | .prefixDstIy _
  | .prefixDstSpDec _ | .prefixDstHlC _ | .prefixDstIxD _ _ | .prefixDstIyD _ _
  | .prefixDstSpD _ _ | .prefixDstHlD _ _ | .nop | .clrCf | .setCf | .cplCf | .cmpXN _ _
  | .ldwXMn _ _ | .ldwHlMn _ | .ldXN _ _ | .ldHlN _ | .ldAX _ | .ldAHl | .ldXA _ | .ldHlA
  | .ldAR _ | .ldRN _ _ | .incR _ | .decR _ | .incRr _ | .decRr _ | .ldSpPlusD _ | .ldSpMinusD _
  | .ldRA _ | .ldRrMn _ _ | .pushRr _ | .ldCfXB _ _ | .addcAN _ | .addcRG _ _ | .addcGN _ _
  | .addcGgMn _ _ | .addcRrGg _ _ | .addcRSrc _ _ | .addcSrcN _ _ | .addcRrSrc _ _ | .addAN _
  | .addRG _ _ | .addGN _ _ | .addGgMn _ _ | .addRrGg _ _ | .addRSrc _ _ | .addSrcN _ _
  | .addRrSrc _ _ | .subbAN _ | .subbRG _ _ | .subbGN _ _ | .subbGgMn _ _ | .subbRrGg _ _
  | .subbRSrc _ _ | .subbSrcN _ _ | .subbRrSrc _ _ | .subAN _ | .subRG _ _ | .subGN _ _
  | .subGgMn _ _ | .subRrGg _ _ | .subRSrc _ _ | .subSrcN _ _ | .subRrSrc _ _ | .andAN _
  | .andRG _ _ | .andGN _ _ | .andGgMn _ _ | .andRrGg _ _ | .andRSrc _ _ | .andSrcN _ _
  | .andRrSrc _ _ | .xorAN _ | .xorRG _ _ | .xorGN _ _ | .xorGgMn _ _ | .xorRrGg _ _
  | .xorRSrc _ _ | .xorSrcN _ _ | .xorRrSrc _ _ | .orAN _ | .orRG _ _ | .orGN _ _ | .orGgMn _ _
  | .orRrGg _ _ | .orRSrc _ _ | .orSrcN _ _ | .orRrSrc _ _ | .cmpAN _ | .cmpRG _ _ | .cmpGN _ _
  | .cmpGgMn _ _ | .cmpRrGg _ _ | .cmpRSrc _ _ | .cmpSrcN _ _ | .cmpRrSrc _ _ | .setXB _ _
  | .clrXB _ _ | .popRr _ | .ei | .di | .ldRG _ _ | .ldRrGg _ _ | .xorCfGB _ _ | .ldCfGB _ _
  | .xchRG _ _ | .xchRrGg _ _ | .setGB _ _ | .clrGB _ _ | .pushGg _ | .popGg _ | .daa _ | .das _
  | .pushPsw | .popPsw | .ldPswN _ | .cplGB _ _ | .ldGBCf _ _ | .shlca _ | .shrca _ | .mul _
  | .div _ | .shlc _ | .shrc _ | .rolc _ | .rorc _ | .negCs _ | .swap _ | .ldRSrc _ _
  | .ldRrSrc _ _ | .xorCfSrcB _ _ | .ldCfSrcB _ _ | .ldDstRr _ _ | .xchRSrc _ _ | .ldDstR _ _
  | .setSrcB _ _ | .clrSrcB _ _ | .xchRrSrc _ _ | .cplSrcB _ _ | .ldSrcBCf _ _ | .incSrc _
  | .setSrcA _ | .ldSrcACf _ | .rold _ | .rord _ | .decSrc _ | .ldDstN _ _ | .clrSrcA _
  | .cplSrcA _ | .ldCfSrcA _ => false

/-- The prefix rows of spec/opcode_table.json (log 9). -/
def isPrefixRow : Instr → Bool
  | .prefixReg _ _ | .prefixSrcX _ _ | .prefixSrcVw _ _ | .prefixSrcDe _ | .prefixSrcHl _
  | .prefixSrcIx _ | .prefixSrcIy _ | .prefixSrcIncSp _ | .prefixSrcHlC _ | .prefixSrcIxD _ _
  | .prefixSrcIyD _ _ | .prefixSrcSpD _ _ | .prefixSrcHlD _ _ | .prefixSrcPcA _ | .prefixDstX _ _
  | .prefixDstVw _ _ | .prefixDstDe _ | .prefixDstHl _ | .prefixDstIx _ | .prefixDstIy _
  | .prefixDstSpDec _ | .prefixDstHlC _ | .prefixDstIxD _ _ | .prefixDstIyD _ _
  | .prefixDstSpD _ _ | .prefixDstHlD _ _ => true
  | .nop | .clrCf | .setCf | .cplCf | .cmpXN _ _ | .ldwXMn _ _ | .ldwHlMn _ | .ldXN _ _
  | .ldHlN _ | .ldAX _ | .ldAHl | .ldXA _ | .ldHlA | .ldAR _ | .ldRN _ _ | .incR _ | .decR _
  | .incRr _ | .decRr _ | .ldSpPlusD _ | .ldSpMinusD _ | .ldRA _ | .ldRrMn _ _ | .pushRr _
  | .ldCfXB _ _ | .addcAN _ | .addcRG _ _ | .addcGN _ _ | .addcGgMn _ _ | .addcRrGg _ _
  | .addcRSrc _ _ | .addcSrcN _ _ | .addcRrSrc _ _ | .addAN _ | .addRG _ _ | .addGN _ _
  | .addGgMn _ _ | .addRrGg _ _ | .addRSrc _ _ | .addSrcN _ _ | .addRrSrc _ _ | .subbAN _
  | .subbRG _ _ | .subbGN _ _ | .subbGgMn _ _ | .subbRrGg _ _ | .subbRSrc _ _ | .subbSrcN _ _
  | .subbRrSrc _ _ | .subAN _ | .subRG _ _ | .subGN _ _ | .subGgMn _ _ | .subRrGg _ _
  | .subRSrc _ _ | .subSrcN _ _ | .subRrSrc _ _ | .andAN _ | .andRG _ _ | .andGN _ _
  | .andGgMn _ _ | .andRrGg _ _ | .andRSrc _ _ | .andSrcN _ _ | .andRrSrc _ _ | .xorAN _
  | .xorRG _ _ | .xorGN _ _ | .xorGgMn _ _ | .xorRrGg _ _ | .xorRSrc _ _ | .xorSrcN _ _
  | .xorRrSrc _ _ | .orAN _ | .orRG _ _ | .orGN _ _ | .orGgMn _ _ | .orRrGg _ _ | .orRSrc _ _
  | .orSrcN _ _ | .orRrSrc _ _ | .cmpAN _ | .cmpRG _ _ | .cmpGN _ _ | .cmpGgMn _ _ | .cmpRrGg _ _
  | .cmpRSrc _ _ | .cmpSrcN _ _ | .cmpRrSrc _ _ | .callv _ | .jrsT _ | .jrsF _ | .setXB _ _
  | .clrXB _ _ | .popRr _ | .jrZ _ | .jrNz _ | .jrCs _ | .jrCc _ | .jrLe _ | .jrGt _ | .jrT _
  | .jrF _ | .ret | .reti | .jr _ | .callMn _ | .jpMn _ | .swi | .ei | .di | .ldRG _ _
  | .ldRrGg _ _ | .xorCfGB _ _ | .ldCfGB _ _ | .xchRG _ _ | .xchRrGg _ _ | .setGB _ _
  | .clrGB _ _ | .jrM _ | .jrP _ | .jrSlt _ | .jrSge _ | .jrSle _ | .jrSgt _ | .jrVs _ | .jrVc _
  | .pushGg _ | .popGg _ | .daa _ | .das _ | .pushPsw | .popPsw | .ldPswN _ | .cplGB _ _
  | .ldGBCf _ _ | .shlca _ | .shrca _ | .mul _ | .div _ | .shlc _ | .shrc _ | .rolc _ | .rorc _
  | .negCs _ | .retn | .callGg _ | .jpGg _ | .swap _ | .ldRSrc _ _ | .ldRrSrc _ _
  | .xorCfSrcB _ _ | .ldCfSrcB _ _ | .ldDstRr _ _ | .xchRSrc _ _ | .ldDstR _ _ | .setSrcB _ _
  | .clrSrcB _ _ | .xchRrSrc _ _ | .cplSrcB _ _ | .ldSrcBCf _ _ | .incSrc _ | .setSrcA _
  | .ldSrcACf _ | .rold _ | .rord _ | .decSrc _ | .ldDstN _ _ | .clrSrcA _ | .cplSrcA _
  | .ldCfSrcA _ | .callSrc _ | .jpSrc _ => false

end Sys2Proof.Machine
end

