-- ==== Sys2Proof/Safety.lean ====
section
/-! DEFINITION. The terms in which claims speak of the machine: which states stand under the spec's
default regions, what a run never changes, the invariant every step keeps, what an access does
under any regions, and the flags of an addition or a subtraction said over the integers. -/

namespace Sys2Proof.Machine

/-- Every address is `ram`: the spec's default for proofs about the instruction set
(20_memory.md R59). -/
def State.allRam (s : State) : Prop := ∀ a, s.kindAt a = .ram

/-- No address is `absent`, so that no access stops the run (20_memory.md R59). -/
def State.noAbsent (s : State) : Prop := ∀ a, s.kindAt a ≠ .absent

/-- Two states of one run have the same `mem_regions`, `halt_address` and `reset_state`
(00_scope.md R9). -/
def sameParameters (s t : State) : Prop :=
  t.regions = s.regions ∧ t.haltAddress = s.haltAddress ∧ t.launch = s.launch

/-- The invariant: memory is in canonical form, and so is the memory a reset event loads, so that
equal memories are equal data (20_memory.md R50; log 3). -/
def State.Inv (s : State) : Prop := Memory.wf s.mem = true ∧ Memory.wf s.launch.mem = true

/-- The byte of memory k bytes after PC, as data. -/
def State.codeByte (s : State) (k : Nat) : Byte := s.byteAt (s.pc + BitVec.ofNat 16 k)

/-- The word in memory at an address, low byte first (20_memory.md R52), as data. -/
def State.wordAt (s : State) (a : Word) : Word := mkWord (s.byteAt (a + 1)) (s.byteAt a)

/-! ## Accesses under any regions -/

/-- The byte a read of an address gives where it is not `absent` (20_memory.md R59). -/
def State.readAt (s : State) (a : Word) : Byte :=
  if s.kindAt a = .device then s.deviceByte a else s.byteAt a

/-- The state after a byte is read: a device's read is recorded (20_memory.md R59). -/
def State.afterRead (s : State) (a : Word) : State :=
  if s.kindAt a = .device then s.logDevice (.read a (s.deviceByte a)) else s

/-- The state after a byte is written: `ram` takes it, `rom` drops it, a device's write is recorded
(20_memory.md R59). -/
def State.afterWrite (s : State) (a : Word) (v : Byte) : State :=
  if s.kindAt a = .ram then s.setByte a v
  else if s.kindAt a = .device then s.logDevice (.write a v) else s

/-- The word a read of two bytes gives, the low one read first (20_memory.md R52, R57). -/
def State.wordReadAt (s : State) (a : Word) : Word :=
  mkWord ((s.afterRead a).readAt (a + 1)) (s.readAt a)

/-- The state after a word is read (20_memory.md R57). -/
def State.afterWordRead (s : State) (a : Word) : State := (s.afterRead a).afterRead (a + 1)

/-- The state after a word is written, the low byte first (20_memory.md R57). -/
def State.afterWordWrite (s : State) (a v : Word) : State :=
  (s.afterWrite a (loByte v)).afterWrite (a + 1) (hiByte v)

/-- The state after a word is pushed, the high byte first (20_memory.md R54, R57). -/
def State.afterPush (s : State) (v : Word) : State :=
  ((s.afterWrite s.sp (hiByte v)).afterWrite (s.sp - 1) (loByte v)).putSp (s.sp - 2)

/-- n bytes read one after the other from an address upwards, and the state after them. -/
def State.readRun : Nat → Word → State → List Byte × State
  | 0, _, s => ([], s)
  | n + 1, a, s =>
    (s.readAt a :: (State.readRun n (a + 1) (s.afterRead a)).1,
      (State.readRun n (a + 1) (s.afterRead a)).2)

/-- The addresses an instruction accesses in a state, its own bytes apart. -/
def accessedBy (i : Instr) (s : State) : List Word := loadedFrom i s ++ storedAt i s

/-! ## Flags of an addition and a subtraction -/

/-- CF, ZF, SF and VF after `a + b + cin` in n bits, said over the integers: the carry out, the zero
and the sign of the n-bit result, the two's complement overflow (41 R200, 00_scope.md R13, R14). -/
structure SumFlags {n : Nat} (a b : BitVec n) (cin : Bool) (p : Psw) : Prop where
  carry : p.cf = decide (2 ^ n ≤ a.toNat + b.toNat + cin.toNat)
  zero : p.zf = decide ((a.toNat + b.toNat + cin.toNat) % 2 ^ n = 0)
  sign : p.sf = decide (2 ^ n ≤ 2 * ((a.toNat + b.toNat + cin.toNat) % 2 ^ n))
  overflow : p.vf = decide (2 * (a.toInt + b.toInt + cin.toNat) < -2 ^ n
    ∨ 2 ^ n ≤ 2 * (a.toInt + b.toInt + cin.toNat))

/-- CF, ZF, SF and VF after `a - b - cin` in n bits, said over the integers: the borrow, the zero and
the sign of the n-bit result, the two's complement overflow (41 R200, 00_scope.md R13, R14). -/
structure DifferenceFlags {n : Nat} (a b : BitVec n) (cin : Bool) (p : Psw) : Prop where
  borrow : p.cf = decide (a.toNat < b.toNat + cin.toNat)
  zero : p.zf = decide (((a.toNat : Int) - b.toNat - cin.toNat) % 2 ^ n = 0)
  sign : p.sf = decide (2 ^ n ≤ 2 * (((a.toNat : Int) - b.toNat - cin.toNat) % 2 ^ n))
  overflow : p.vf = decide (2 * (a.toInt - b.toInt - cin.toNat) < -2 ^ n
    ∨ 2 ^ n ≤ 2 * (a.toInt - b.toInt - cin.toNat))

/-- HF after an 8-bit addition: the carry out of bit 3 (10_state.md R34). -/
def halfCarry (a b : Byte) (cin : Bool) : Bool :=
  decide (16 ≤ a.toNat % 16 + b.toNat % 16 + cin.toNat)

/-- HF after an 8-bit subtraction or comparison: the borrow into bit 3 (10_state.md R34). -/
def halfBorrow (a b : Byte) (cin : Bool) : Bool :=
  decide (a.toNat % 16 < b.toNat % 16 + cin.toNat)

/-! ## Next states -/

/-- The 8-bit register r replaced by v, the flags by p, PC moved on by len, nothing else changed. -/
def State.after8 (s : State) (r : Reg8) (v : Byte) (p : Psw) (len : Nat) : State :=
  { s with regs := s.regs.put8 r v, psw := p, pc := s.pc + BitVec.ofNat 16 len }

/-- The 16-bit register rr replaced by v, the flags by p, PC moved on by len, nothing else
changed. -/
def State.after16 (s : State) (rr : Reg16) (v : Word) (p : Psw) (len : Nat) : State :=
  { s with regs := s.regs.put16 rr v, psw := p, pc := s.pc + BitVec.ofNat 16 len }

/-- The flags replaced by p, PC moved on by len, nothing else changed. -/
def State.afterFlags (s : State) (p : Psw) (len : Nat) : State :=
  { s with psw := p, pc := s.pc + BitVec.ofNat 16 len }

/-- Two bytes of memory replaced, the low byte of v at a, its high byte at a + 1 modulo 65536
(20_memory.md R52). -/
def State.setWord (s : State) (a v : Word) : State :=
  (s.setByte a (loByte v)).setByte (a + 1) (hiByte v)

/-- A word pushed: its high byte at SP, its low byte at SP - 1, SP less 2 (20_memory.md R54). -/
def State.pushed (s : State) (v : Word) : State :=
  ((s.setByte s.sp (hiByte v)).setByte (s.sp - 1) (loByte v)).putSp (s.sp - 2)

/-! ## Additions and subtractions -/

/-- x is the next state of an 8-bit addition to register r of state s. -/
def adds8 (x : Result) (s : State) (r : Reg8) (b : Byte) (cin : Bool) (len : Nat) : Prop :=
  ∃ p, x = .next (s.after8 r (BitVec.ofNat 8 ((s.get8 r).toNat + b.toNat + cin.toNat)) p len)
    ∧ SumFlags (s.get8 r) b cin p ∧ p.jf = p.cf ∧ p.hf = halfCarry (s.get8 r) b cin

/-- x is the next state of an 8-bit subtraction from register r of state s. -/
def subtracts8 (x : Result) (s : State) (r : Reg8) (b : Byte) (cin : Bool) (len : Nat) : Prop :=
  ∃ p, x = .next (s.after8 r (BitVec.ofInt 8 ((s.get8 r).toNat - b.toNat - cin.toNat)) p len)
    ∧ DifferenceFlags (s.get8 r) b cin p ∧ p.jf = p.cf ∧ p.hf = halfBorrow (s.get8 r) b cin

/-- x is the next state of an 8-bit comparison of the byte a with the byte b: only flags change. -/
def compares8 (x : Result) (s : State) (a b : Byte) (len : Nat) : Prop :=
  ∃ p, x = .next (s.afterFlags p len)
    ∧ DifferenceFlags a b false p ∧ p.jf = p.zf ∧ p.hf = halfBorrow a b false

/-- x is the next state of a 16-bit addition to register rr of state s; HF may be anything. -/
def adds16 (x : Result) (s : State) (rr : Reg16) (b : Word) (cin : Bool) (len : Nat) : Prop :=
  ∃ p, x = .next { s.after16 rr (BitVec.ofNat 16 ((s.get16 rr).toNat + b.toNat + cin.toNat)) p len
      with draws := s.draws + 1 }
    ∧ SumFlags (s.get16 rr) b cin p ∧ p.jf = p.cf

/-- x is the next state of a 16-bit subtraction from register rr of state s; HF may be anything. -/
def subtracts16 (x : Result) (s : State) (rr : Reg16) (b : Word) (cin : Bool) (len : Nat) : Prop :=
  ∃ p, x = .next { s.after16 rr (BitVec.ofInt 16 ((s.get16 rr).toNat - b.toNat - cin.toNat)) p len
      with draws := s.draws + 1 }
    ∧ DifferenceFlags (s.get16 rr) b cin p ∧ p.jf = p.cf

/-- x is the next state of a 16-bit comparison of register rr of state s with b; HF may be
anything. -/
def compares16 (x : Result) (s : State) (rr : Reg16) (b : Word) (len : Nat) : Prop :=
  ∃ p, x = .next { s.afterFlags p len with draws := s.draws + 1 }
    ∧ DifferenceFlags (s.get16 rr) b false p ∧ p.jf = p.zf

/-- x is the next state of an 8-bit logic operation that leaves v in register r of state s. -/
def leaves8 (x : Result) (s : State) (r : Reg8) (v : Byte) (len : Nat) : Prop :=
  x = .next (s.after8 r v { s.psw with jf := decide (v = 0), zf := decide (v = 0) } len)

/-- x is the next state of a 16-bit logic operation that leaves v in register rr of state s. -/
def leaves16 (x : Result) (s : State) (rr : Reg16) (v : Word) (len : Nat) : Prop :=
  x = .next (s.after16 rr v { s.psw with jf := decide (v = 0), zf := decide (v = 0) } len)

/-! ## Bits, jumps, handlers -/

/-- new is old with bit b made c (44_bit_flag.md R350 (7)). -/
def isWithBit (old new : Byte) (b : BitVec 3) (c : Bool) : Prop :=
  ∀ k, k < 8 → new.getLsbD k = if k = b.toNat then c else old.getLsbD k

/-- x is the next state of SET, CLR or CPL of bit b of register g of state s, which makes the bit c:
ZF and JF are the inverse of the old bit. -/
def changesRegBit (x : Result) (s : State) (g : Reg8) (b : BitVec 3) (c : Bool) : Prop :=
  ∃ v, isWithBit (s.get8 g) v b c ∧ x = .next (s.after8 g v
    { s.psw with jf := !(s.get8 g).getLsbD b.toNat, zf := !(s.get8 g).getLsbD b.toNat } 2)

/-- x is the next state of SET, CLR or CPL of bit b of the byte at address a of state s, which makes
the bit c. -/
def changesMemBit (x : Result) (s : State) (a : Word) (b : BitVec 3) (c : Bool) (len : Nat) :
    Prop :=
  ∃ v, isWithBit (s.byteAt a) v b c ∧ x = .next ((s.setByte a v).afterFlags
    { s.psw with jf := !(s.byteAt a).getLsbD b.toNat, zf := !(s.byteAt a).getLsbD b.toNat } len)

/-- x is the next state of an instruction that loads CF with c and JF with its inverse. -/
def loadsCarry (x : Result) (s : State) (c : Bool) (len : Nat) : Prop :=
  x = .next (s.afterFlags { s.psw with jf := !c, cf := c } len)

/-- x is the next state of a relative jump: to target modulo 65536, or len bytes on; JF is 1
(45_jump.md R400). -/
def jumps (x : Result) (s : State) (taken : Bool) (target : Int) (len : Nat) : Prop :=
  x = .next { s with
    pc := if taken then BitVec.ofInt 16 target else s.pc + BitVec.ofNat 16 len
    psw := { s.psw with jf := true } }

/-- The frame of SWI and of an accepted interrupt: the PSW image with IMF in bit 0 and some bit 1, the
return address below it (46 R443, 60_exceptions.md R462). -/
def State.framed (s : State) (ra : Word) (low : BitVec 2) : State :=
  ((s.setByte s.sp (bitPut (pswImage s.psw low) 0 s.imf)).setByte (s.sp - 1) (hiByte ra)).setByte
    (s.sp - 2) (loByte ra)

/-- The byte at 003AH with bit 0 replaced (10_state.md R36). -/
def State.withImf (s : State) (c : Bool) : State :=
  s.setByte imfAddress (bitPut (s.byteAt imfAddress) 0 c)

/-- x is a next state in which IMF is c. -/
def leavesImf (x : Result) (c : Bool) : Prop := ∃ t, x = .next t ∧ t.imf = c

/-- x is the next state of the entry into the handler whose address stands at vector, in state s,
with return address ra (46 R443, 60_exceptions.md R462). -/
def entersHandler (x : Result) (s : State) (ra vector : Word) : Prop :=
  ∃ low, x = .next
    { ((s.framed ra low).withImf false).putSp (s.sp - 3) with
      pc := ((s.framed ra low).withImf false).wordAt vector
      draws := s.draws + 1 }

/-! ## Decimal digits -/

/-- A byte of two decimal digits (42 R291). -/
def isBcd (b : Byte) : Prop := b.toNat / 16 ≤ 9 ∧ b.toNat % 16 ≤ 9

/-- The number two decimal digits stand for. -/
def bcdValue (b : Byte) : Nat := 10 * (b.toNat / 16) + b.toNat % 16

/-- A row of the decimal adjustment tables: CF and HF before, the ranges of g[7:4] and g[3:0], what
is added, CF after (42 R291, R292). -/
structure AdjustRow where
  cf : Bool
  hf : Bool
  hiFrom : Nat
  hiTo : Nat
  loFrom : Nat
  loTo : Nat
  add : Nat
  cfAfter : Bool
  deriving DecidableEq, Repr

/-- The row holds before the adjustment of the byte g under the flags p. -/
def AdjustRow.matches (r : AdjustRow) (g : Byte) (p : Psw) : Prop :=
  p.cf = r.cf ∧ p.hf = r.hf ∧ r.hiFrom ≤ g.toNat / 16 ∧ g.toNat / 16 ≤ r.hiTo
    ∧ r.loFrom ≤ g.toNat % 16 ∧ g.toNat % 16 ≤ r.loTo

/-- The table of DAA (42 R291), in its order. -/
def daaTable : List AdjustRow :=
  [ ⟨false, false, 0, 9, 0, 9, 0x00, false⟩, ⟨false, false, 0, 8, 10, 15, 0x06, false⟩,
    ⟨false, true, 0, 9, 0, 3, 0x06, false⟩, ⟨false, false, 10, 15, 0, 9, 0x60, true⟩,
    ⟨false, false, 9, 15, 10, 15, 0x66, true⟩, ⟨false, true, 10, 15, 0, 3, 0x66, true⟩,
    ⟨true, false, 0, 2, 0, 9, 0x60, true⟩, ⟨true, false, 0, 2, 10, 15, 0x66, true⟩,
    ⟨true, true, 0, 3, 0, 3, 0x66, true⟩ ]

/-- The table of DAS (42 R292), in its order. -/
def dasTable : List AdjustRow :=
  [ ⟨false, false, 0, 9, 0, 9, 0x00, false⟩, ⟨false, true, 0, 8, 6, 15, 0xFA, false⟩,
    ⟨true, false, 7, 15, 0, 9, 0xA0, true⟩, ⟨true, true, 6, 15, 6, 15, 0x9A, true⟩ ]

end Sys2Proof.Machine
end

