-- ==== Sys2Proof/Certificates/Slice0/Obligations.lean ====
section
/-! DEFINITION. The statements for the provers. Those about the effect of an instruction give the
whole next state, so that they say its frame too; those with a memory operand stand under the spec's
default regions, all `ram` (20_memory.md R59). -/

open Sys2Proof Sys2Proof.Machine

/-! ## Encoding -/

/-- A few words written out from the encodings of 30_encoding.md R100, R104, R108 decode to the
instructions they stand for. That C0H 3AH, the word of SET (3AH).0, is read as EI (R119) is the
model's choice (log 10); that E9H F3H is undefined is the spec's decision D3 (R106), and that it is
the constructor of a prefix row the model's choice (log 9). -/
def Obligations.SampleWordsDecode : Prop :=
  decode [0x07, 0x40, 0x80] = .instr (.cmpXN 0x40 0x80)
  ∧ decode [0x4A, 0x34, 0x12] = .instr (.ldRrMn .de 0x1234)
  ∧ decode [0x9F] = .instr (.jrsT 0x1F)
  ∧ decode [0xC0, 0x3A] = .instr .ei
  ∧ decode [0xEA, 0x43] = .instr (.ldRG .b .c)
  ∧ decode [0xED, 0x69, 0xCD, 0xAB] = .instr (.addGgMn .iy 0xABCD)
  ∧ decode [0xE1, 0x34, 0x12, 0x60, 0x07] = .instr (.addcSrcN (.dir16 0x1234) 0x07)
  ∧ decode [0xD6, 0xFE, 0xF7] = .instr (.rord (.spD 0xFE))
  ∧ decode [0xF6, 0xF9, 0x5A] = .instr (.ldDstN .spDec 0x5A)
  ∧ decode [0xE9, 0xF3] = .instr (.prefixReg 1 0xF3)
  ∧ decode [0x68] = .undefined [0x68]

/-- Decoding the bytes of a well-formed instruction, whatever follows them, gives it back. -/
def Obligations.DecodeInvertsEncode : Prop :=
  ∀ (i : Instr) (rest : List Byte), i.wellFormed = true → decode (encode i ++ rest) = .instr i

/-- What the decoder answers is a well-formed instruction whose bytes the input begins with, so that
no bit it read is dropped and no input stands for two instructions. -/
def Obligations.DecodedBytesAreItsEncoding : Prop :=
  ∀ (bs : List Byte) (i : Instr), decode bs = .instr i → i.wellFormed = true ∧ encode i <+: bs

/-- Five bytes always decide, and the first bytes that decode as undefined are exactly the thirteen
of 30_encoding.md R111 (a). -/
def Obligations.DecoderDecidesWithinFiveBytes : Prop :=
  (∀ bs : List Byte, 5 ≤ bs.length → decode bs ≠ .more)
  ∧ ∀ bs u : List Byte, decode bs = .undefined u ↔ ∃ b rest, bs = b :: rest ∧ u = [b]
      ∧ b ∈ [0x01, 0x02, 0x03, 0x68, 0x69, 0x6A, 0x6B, 0x6C, 0x6D, 0x6E, 0x6F, 0xF8, 0xF9]

/-- A prefix with a second opcode undefined after it stops the model, with its bytes, in every state;
and so does an undefined first byte that is fetched, when no event is accepted. The stop is the
spec's own decision D1 (30_encoding.md R112; log 8). -/
def Obligations.UndefinedEncodingsStop : Prop :=
  (∀ (s : State) (g : BitVec 3) (op x : Byte) (vw : Word),
    exec (.prefixReg g op) s = .fault (.undefinedInstruction [0xE8 + g.setWidth 8, op])
    ∧ exec (.prefixSrcX x op) s = .fault (.undefinedInstruction [0xE0, x, op])
    ∧ exec (.prefixSrcVw vw op) s
        = .fault (.undefinedInstruction [0xE1, loByte vw, hiByte vw, op])
    ∧ exec (.prefixSrcDe op) s = .fault (.undefinedInstruction [0xE2, op])
    ∧ exec (.prefixSrcHl op) s = .fault (.undefinedInstruction [0xE3, op])
    ∧ exec (.prefixSrcIx op) s = .fault (.undefinedInstruction [0xE4, op])
    ∧ exec (.prefixSrcIy op) s = .fault (.undefinedInstruction [0xE5, op])
    ∧ exec (.prefixSrcIncSp op) s = .fault (.undefinedInstruction [0xE6, op])
    ∧ exec (.prefixSrcHlC op) s = .fault (.undefinedInstruction [0xE7, op])
    ∧ exec (.prefixSrcIxD x op) s = .fault (.undefinedInstruction [0xD4, x, op])
    ∧ exec (.prefixSrcIyD x op) s = .fault (.undefinedInstruction [0xD5, x, op])
    ∧ exec (.prefixSrcSpD x op) s = .fault (.undefinedInstruction [0xD6, x, op])
    ∧ exec (.prefixSrcHlD x op) s = .fault (.undefinedInstruction [0xD7, x, op])
    ∧ exec (.prefixSrcPcA op) s = .fault (.undefinedInstruction [0x4F, op])
    ∧ exec (.prefixDstX x op) s = .fault (.undefinedInstruction [0xF0, x, op])
    ∧ exec (.prefixDstVw vw op) s
        = .fault (.undefinedInstruction [0xF1, loByte vw, hiByte vw, op])
    ∧ exec (.prefixDstDe op) s = .fault (.undefinedInstruction [0xF2, op])
    ∧ exec (.prefixDstHl op) s = .fault (.undefinedInstruction [0xF3, op])
    ∧ exec (.prefixDstIx op) s = .fault (.undefinedInstruction [0xF4, op])
    ∧ exec (.prefixDstIy op) s = .fault (.undefinedInstruction [0xF5, op])
    ∧ exec (.prefixDstSpDec op) s = .fault (.undefinedInstruction [0xF6, op])
    ∧ exec (.prefixDstHlC op) s = .fault (.undefinedInstruction [0xF7, op])
    ∧ exec (.prefixDstIxD x op) s = .fault (.undefinedInstruction [0x54, x, op])
    ∧ exec (.prefixDstIyD x op) s = .fault (.undefinedInstruction [0x55, x, op])
    ∧ exec (.prefixDstSpD x op) s = .fault (.undefinedInstruction [0x56, x, op])
    ∧ exec (.prefixDstHlD x op) s = .fault (.undefinedInstruction [0x57, x, op]))
  ∧ ∀ s : State, s.haltAddress ≠ some s.pc → s.offers = [] → plainAt s s.pc = true →
      s.codeByte 0 ∈ [0x01, 0x02, 0x03, 0x68, 0x69, 0x6A, 0x6B, 0x6C, 0x6D, 0x6E, 0x6F, 0xF8, 0xF9] →
      step s = .fault (.undefinedInstruction [s.codeByte 0])

/-! ## The step -/

/-- At a boundary that is not the end of the run and where nothing is offered, when the five bytes at
PC can be read without an effect and decode to an instruction, the step is that instruction's meaning
(30_encoding.md R114, 20_memory.md R65; log 22, log 24, log 25). -/
def Obligations.StepRunsTheDecodedInstruction : Prop :=
  ∀ (s : State) (i : Instr), s.haltAddress ≠ some s.pc → s.offers = [] → plainFetch s = true →
    decode [s.codeByte 0, s.codeByte 1, s.codeByte 2, s.codeByte 3, s.codeByte 4] = .instr i →
    step s = exec i s.pastOffers

/-- The same for the bytes of a well-formed instruction: only its own bytes have to be readable
without an effect, whatever stands behind the ones after it. Under any regions the bytes are read one
after the other, a device's reads are recorded, and the instruction runs in the state after them; an
`absent` address that is reached before the bytes decide stops the step, with that address
(30_encoding.md R114; the fetch through the regions is read from the spec's decisions D12 and D14:
log 7, log 25). -/
def Obligations.StepRunsTheEncodedInstruction : Prop :=
  (∀ (s : State) (i : Instr), s.haltAddress ≠ some s.pc → s.offers = [] → i.wellFormed = true →
    (∀ k, k < (encode i).length → plainAt s (s.pc + BitVec.ofNat 16 k) = true
      ∧ (encode i)[k]? = some (s.codeByte k)) →
    step s = exec i s.pastOffers)
  ∧ (∀ (s t : State) (i : Instr), s.haltAddress ≠ some s.pc → s.offers = [] →
    i.wellFormed = true →
    (∀ k, k < (encode i).length → s.kindAt (s.pc + BitVec.ofNat 16 k) ≠ .absent) →
    s.readRun (encode i).length s.pc = (encode i, t) → step s = exec i t.pastOffers)
  ∧ ∀ (s : State) (n : Nat), s.haltAddress ≠ some s.pc → s.offers = [] →
    (∀ k, k < n → s.kindAt (s.pc + BitVec.ofNat 16 k) ≠ .absent) →
    decode (s.readRun n s.pc).1 = .more → s.kindAt (s.pc + BitVec.ofNat 16 n) = .absent →
    step s = .fault (.absentMemory (s.pc + BitVec.ofNat 16 n))

/-- A step is refused exactly at `halt_address`, whatever is offered there (60_exceptions.md R477;
log 24). -/
def Obligations.StepIsRefusedExactlyAtHaltAddress : Prop :=
  ∀ (s : State) (r : Refusal), step s = .refused r ↔ r = .runEnded ∧ s.haltAddress = some s.pc

/-- Memory keeps its canonical form in every step, and so does the memory a reset loads (the form is
the model's: log 3). -/
def Obligations.StepKeepsMemoryCanonical : Prop :=
  ∀ s t : State, s.Inv → step s = .next t → t.Inv

/-- The state after reset meets the invariant. -/
def Obligations.ResetStateIsCanonical : Prop := State.reset.Inv

/-- No step changes the parameters of the run, every step uses up the offers of one boundary, the
device accesses made stay recorded, and free values are only ever drawn (00_scope.md R9; log 6,
log 16, log 22). -/
def Obligations.StepKeepsParametersAndHistory : Prop :=
  ∀ s t : State, step s = .next t → sameParameters s t ∧ t.schedule = s.schedule.tail
    ∧ s.deviceLog <:+ t.deviceLog ∧ s.draws ≤ t.draws

/-! ## Every instruction -/

/-- Every instruction but a prefix row completes where no address is absent, the default among such
states (20_memory.md R59, 60_exceptions.md R450). -/
def Obligations.InstructionsCompleteWithoutAbsentMemory : Prop :=
  ∀ (i : Instr) (s : State), isPrefixRow i = false → s.noAbsent → ∃ t, exec i s = .next t

/-- An instruction stops for two reasons only: an undefined encoding, with its bytes (the spec's
decision D1: log 8), or an access to an absent address, with the address (the spec's decision D12:
log 7); it stops whenever an address it accesses is absent; and no instruction is refused
(60_exceptions.md R450, R452). -/
def Obligations.StopsNameTheirCause : Prop :=
  ∀ (i : Instr) (s : State),
    (∀ f, exec i s = .fault f → (isPrefixRow i = true ∧ f = .undefinedInstruction (encode i))
      ∨ ∃ a ∈ accessedBy i s, s.kindAt a = .absent ∧ f = .absentMemory a)
    ∧ (∀ a ∈ accessedBy i s, s.kindAt a = .absent → ∃ b, exec i s = .fault (.absentMemory b))
    ∧ ∀ r, exec i s ≠ .refused r

/-- Every instruction's flags follow its row of the flag columns (10_state.md R38): a `–` is
unchanged, a `1` is 1, a `0` is 0. -/
def Obligations.FlagsFollowTheFlagColumns : Prop :=
  ∀ (i : Instr) (s t : State), exec i s = .next t → (flagRow i).holds s.psw t.psw

/-- Every register but those in the table `writes` is unchanged: the destination, SP where the
instruction or its addressing mode moves it, both registers of an exchange. -/
def Obligations.RegistersOutsideWritesAreUnchanged : Prop :=
  ∀ (i : Instr) (s t : State), exec i s = .next t → ∀ x : Storage, x ∉ writes i → x.same s.regs t.regs

/-- Every byte of memory but those at the addresses `storedAt` computes, with the functions the
meanings use, reads as before; an instruction that stores nothing leaves all of memory; a byte that is
not in `ram` never changes; and no device access is recorded by an instruction that accesses no device
(20_memory.md R59, the spec's decision D12: log 5, log 6). -/
def Obligations.BytesOutsideStoredAreUnchanged : Prop :=
  ∀ (i : Instr) (s t : State), exec i s = .next t →
    (∀ a : Word, a ∉ storedAt i s → t.byteAt a = s.byteAt a)
    ∧ (storedAt i s = [] → t.mem = s.mem)
    ∧ (∀ a : Word, s.kindAt a ≠ .ram → t.byteAt a = s.byteAt a)
    ∧ ((∀ a ∈ accessedBy i s, s.kindAt a ≠ .device) → t.deviceLog = s.deviceLog)

/-- Every instruction that is no jump, call, return or SWI ends with PC at the byte after its own
bytes (10_state.md R26). -/
def Obligations.PcMovesPastTheInstruction : Prop :=
  ∀ (i : Instr) (s t : State), exec i s = .next t → transfersControl i = false →
    t.pc = s.pc + BitVec.ofNat 16 (encode i).length

/-- HF is read by DAA and DAS, and by the two instructions that save PSW, only: for every other
instruction a different HF makes no difference but in an HF that the instruction leaves
(10_state.md R34). -/
def Obligations.HalfCarryIsReadByDecimalAdjustOnly : Prop :=
  ∀ (i : Instr) (s t : State) (h : Bool), (∀ g, i ≠ .daa g) → (∀ g, i ≠ .das g) → i ≠ .pushPsw →
    i ≠ .swi → exec i s = .next t →
    exec i { s with psw := { s.psw with hf := h } } = .next { t with
      psw := { t.psw with hf := if (flagRow i).hf = .keep then h else t.psw.hf } }

/-! ## Operand addresses -/

/-- The effective addresses, as sums modulo 65536 of the registers at the start of the instruction
(30_encoding.md R86 to R94; the modulus is the spec's decision D13: log 19). -/
def Obligations.EffectiveAddresses : Prop :=
  ∀ (s : State) (x d : Byte) (vw : Word),
    (srcAddr (.dir8 x) s).toNat = x.toNat ∧ srcAddr (.dir16 vw) s = vw
    ∧ (srcAddr .de s).toNat = 256 * s.regs.d.toNat + s.regs.e.toNat
    ∧ (srcAddr .hl s).toNat = 256 * s.regs.h.toNat + s.regs.l.toNat
    ∧ srcAddr .ix s = s.regs.ix ∧ srcAddr .iy s = s.regs.iy
    ∧ (srcAddr .incSp s).toNat = (s.regs.sp.toNat + 1) % 65536
    ∧ srcBegin .incSp s = { s with regs := { s.regs with sp := srcAddr .incSp s } }
    ∧ ((srcAddr (.ixD d) s).toNat : Int) = (s.regs.ix.toNat + d.toInt) % 65536
    ∧ ((srcAddr (.iyD d) s).toNat : Int) = (s.regs.iy.toNat + d.toInt) % 65536
    ∧ ((srcAddr (.spD d) s).toNat : Int) = (s.regs.sp.toNat + d.toInt) % 65536
    ∧ ((srcAddr (.hlD d) s).toNat : Int)
        = (256 * s.regs.h.toNat + s.regs.l.toNat + d.toInt) % 65536
    ∧ ((srcAddr .hlC s).toNat : Int)
        = (256 * s.regs.h.toNat + s.regs.l.toNat + s.regs.c.toInt) % 65536
    ∧ ((srcAddr .pcA s).toNat : Int) = (s.pc.toNat + 2 + s.regs.a.toInt) % 65536
    ∧ dstAddr (.dir8 x) s = srcAddr (.dir8 x) s ∧ dstAddr (.dir16 vw) s = vw
    ∧ dstAddr .de s = srcAddr .de s ∧ dstAddr .hl s = srcAddr .hl s
    ∧ dstAddr .ix s = s.regs.ix ∧ dstAddr .iy s = s.regs.iy
    ∧ dstAddr .hlC s = srcAddr .hlC s ∧ dstAddr (.ixD d) s = srcAddr (.ixD d) s
    ∧ dstAddr (.iyD d) s = srcAddr (.iyD d) s ∧ dstAddr (.spD d) s = srcAddr (.spD d) s
    ∧ dstAddr (.hlD d) s = srcAddr (.hlD d) s
    ∧ dstAddr .spDec s = s.regs.sp
    ∧ ((dstEnd .spDec s).regs.sp.toNat : Int) = ((s.regs.sp.toNat : Int) - 1) % 65536

/-! ## Transfer and exchange -/

/-- `LD A,r`, `LD r,A`, `LD r,g`: the byte arrives, JF is 1, ZF says whether it is 00H, nothing else
changes; `LD r,n` leaves ZF too; their bytes and cycles. -/
def Obligations.ByteRegisterLoads : Prop :=
  ∀ (s : State) (r g : Reg8) (n : Byte),
    exec (.ldAR r) s = .next (s.after8 .a (s.get8 r)
      { s.psw with jf := true, zf := decide (s.get8 r = 0) } 1)
    ∧ exec (.ldRA r) s = .next (s.after8 r (s.get8 .a)
      { s.psw with jf := true, zf := decide (s.get8 .a = 0) } 1)
    ∧ exec (.ldRG r g) s = .next (s.after8 r (s.get8 g)
      { s.psw with jf := true, zf := decide (s.get8 g = 0) } 2)
    ∧ exec (.ldRN r n) s = .next (s.after8 r n { s.psw with jf := true } 2)
    ∧ encode (.ldAR r) = [0x10 + (Encode.code8 r).setWidth 8]
    ∧ encode (.ldRA r) = [0x40 + (Encode.code8 r).setWidth 8]
    ∧ encode (.ldRG r g) = [0xE8 + (Encode.code8 g).setWidth 8, 0x40 + (Encode.code8 r).setWidth 8]
    ∧ encode (.ldRN r n) = [0x18 + (Encode.code8 r).setWidth 8, n]
    ∧ cycles (.ldAR r) = some ⟨1, 1⟩ ∧ cycles (.ldRA r) = some ⟨1, 1⟩
    ∧ cycles (.ldRG r g) = some ⟨2, 2⟩ ∧ cycles (.ldRN r n) = some ⟨2, 2⟩

/-- `LD rr,mn` and `LD rr,gg`: the word arrives, JF is 1; a pair takes the high byte in its first
register and the low byte in its second (10_state.md R23). -/
def Obligations.WordRegisterLoads : Prop :=
  ∀ (s : State) (rr gg : Reg16) (mn : Word),
    exec (.ldRrMn rr mn) s = .next (s.after16 rr mn { s.psw with jf := true } 3)
    ∧ exec (.ldRrGg rr gg) s = .next (s.after16 rr (s.get16 gg) { s.psw with jf := true } 2)
    ∧ (s.regs.put16 .wa mn).w.toNat = mn.toNat / 256 ∧ (s.regs.put16 .wa mn).a.toNat = mn.toNat % 256
    ∧ (s.regs.put16 .bc mn).b.toNat = mn.toNat / 256 ∧ (s.regs.put16 .bc mn).c.toNat = mn.toNat % 256
    ∧ (s.regs.put16 .de mn).d.toNat = mn.toNat / 256 ∧ (s.regs.put16 .de mn).e.toNat = mn.toNat % 256
    ∧ (s.regs.put16 .hl mn).h.toNat = mn.toNat / 256 ∧ (s.regs.put16 .hl mn).l.toNat = mn.toNat % 256
    ∧ s.regs.put16 .hl7 mn = s.regs.put16 .hl mn
    ∧ (∀ g : Regs, g.get16 rr = (g.put16 gg (g.get16 rr)).get16 gg)
    ∧ (∀ x : Storage, x ∉ halves rr → x.same s.regs (s.regs.put16 rr mn))

/-- `LD A,(x)`, `LD A,(HL)`, `LD r,(src)`, `LD rr,(src)` under the default regions. -/
def Obligations.LoadsFromMemory : Prop :=
  ∀ (s : State) (x : Byte) (m : Src) (r : Reg8) (rr : Reg16), s.allRam →
    exec (.ldAX x) s = .next (s.after8 .a (s.byteAt (zext16 x))
      { s.psw with jf := true, zf := decide (s.byteAt (zext16 x) = 0) } 2)
    ∧ exec .ldAHl s = .next (s.after8 .a (s.byteAt (s.get16 .hl))
      { s.psw with jf := true, zf := decide (s.byteAt (s.get16 .hl) = 0) } 1)
    ∧ exec (.ldRSrc r m) s = .next ((srcBegin m s).after8 r (s.byteAt (srcAddr m s))
      { s.psw with jf := true, zf := decide (s.byteAt (srcAddr m s) = 0) } (srcLen m 0))
    ∧ exec (.ldRrSrc rr m) s = .next ((srcBegin m s).after16 rr (s.wordAt (srcAddr m s))
      { s.psw with jf := true } (srcLen m 0))

/-- The stores `LD (x),A`, `LD (HL),A`, `LD (dst),r`, `LD (x),n`, `LD (HL),n`, `LD (dst),n`,
`LDW (x),mn`, `LDW (HL),mn`, `LD (dst),rr` under the default regions. -/
def Obligations.StoresToMemory : Prop :=
  ∀ (s : State) (x n : Byte) (m : Dst) (r : Reg8) (rr : Reg16) (mn : Word) (p : Psw), s.allRam →
    p = { s.psw with jf := true } →
    exec (.ldXA x) s = .next ((s.setByte (zext16 x) (s.get8 .a)).afterFlags p 2)
    ∧ exec .ldHlA s = .next ((s.setByte (s.get16 .hl) (s.get8 .a)).afterFlags p 1)
    ∧ exec (.ldDstR m r) s
        = .next ((dstEnd m (s.setByte (dstAddr m s) (s.get8 r))).afterFlags p (dstLen m 0))
    ∧ exec (.ldXN x n) s = .next ((s.setByte (zext16 x) n).afterFlags p 3)
    ∧ exec (.ldHlN n) s = .next ((s.setByte (s.get16 .hl) n).afterFlags p 2)
    ∧ exec (.ldDstN m n) s
        = .next ((dstEnd m (s.setByte (dstAddr m s) n)).afterFlags p (dstLen m 1))
    ∧ exec (.ldwXMn x mn) s = .next ((s.setWord (zext16 x) mn).afterFlags p 4)
    ∧ exec (.ldwHlMn mn) s = .next ((s.setWord (s.get16 .hl) mn).afterFlags p 3)
    ∧ exec (.ldDstRr m rr) s
        = .next ((dstEnd m (s.setWord (dstAddr m s) (s.get16 rr))).afterFlags p (dstLen m 0))

/-- `PUSH rr` and `PUSH gg` under the default regions: the word, SP itself as it was before, lies with
its high byte at the old SP and its low byte below; a `POP gg` after it brings it back to any
register, and SP with it unless SP is that register (PUSH SP by the spec's decision D17: log 27). -/
def Obligations.PushStoresTheWord : Prop :=
  ∀ (s : State) (q : Pair) (gg hh : Reg16), s.allRam → Memory.wf s.mem = true →
    exec (.pushRr q) s = .next ((s.pushed (s.get16 (pairReg q))).afterFlags s.psw 1)
    ∧ exec (.pushGg gg) s = .next ((s.pushed (s.get16 gg)).afterFlags s.psw 2)
    ∧ (s.pushed (s.get16 gg)).byteAt s.sp = hiByte (s.get16 gg)
    ∧ (s.pushed (s.get16 gg)).byteAt (s.sp - 1) = loByte (s.get16 gg)
    ∧ ∃ t u, exec (.pushGg gg) s = .next t ∧ exec (.popGg hh) t = .next u
      ∧ u.regs = s.regs.put16 hh (s.get16 gg) ∧ u.psw = s.psw

/-- `POP rr` and `POP gg` under the default regions: the low byte from SP + 1, the high byte from
SP + 2, SP plus 2; `POP SP` ends with the word popped (40 R174, the spec's decision D17: log 27). -/
def Obligations.PopLoadsTheWord : Prop :=
  ∀ (s : State) (q : Pair) (gg : Reg16), s.allRam →
    exec (.popRr q) s = .next ((s.putSp (s.sp + 2)).after16 (pairReg q) (s.wordAt (s.sp + 1)) s.psw 1)
    ∧ exec (.popGg gg) s = .next ((s.putSp (s.sp + 2)).after16 gg (s.wordAt (s.sp + 1)) s.psw 2)

/-- `LD PSW,n`, and `PUSH PSW`, `POP PSW` under the default regions: bits 7 to 2 of the byte are JF,
ZF, CF, HF, SF, VF; bits 1 and 0 reach no flag when loaded. That they are anything when pushed is the
spec's decision D6 (log 13), and that the draw advances the counter the model's choice (log 16). -/
def Obligations.PswTravelsAsAByte : Prop :=
  (∀ (s : State) (n : Byte), exec (.ldPswN n) s = .next (s.afterFlags
    { jf := n.getLsbD 7, zf := n.getLsbD 6, cf := n.getLsbD 5, hf := n.getLsbD 4,
      sf := n.getLsbD 3, vf := n.getLsbD 2 } 3))
  ∧ ∀ s : State, s.allRam →
    (∃ b : Byte, exec .pushPsw s = .next
        { (s.setByte s.sp b).putSp (s.sp - 1) with pc := s.pc + 2, draws := s.draws + 1 }
      ∧ b.getLsbD 7 = s.psw.jf ∧ b.getLsbD 6 = s.psw.zf ∧ b.getLsbD 5 = s.psw.cf
      ∧ b.getLsbD 4 = s.psw.hf ∧ b.getLsbD 3 = s.psw.sf ∧ b.getLsbD 2 = s.psw.vf)
    ∧ exec .popPsw s = .next ((s.putSp (s.sp + 1)).afterFlags
        { jf := (s.byteAt (s.sp + 1)).getLsbD 7, zf := (s.byteAt (s.sp + 1)).getLsbD 6,
          cf := (s.byteAt (s.sp + 1)).getLsbD 5, hf := (s.byteAt (s.sp + 1)).getLsbD 4,
          sf := (s.byteAt (s.sp + 1)).getLsbD 3, vf := (s.byteAt (s.sp + 1)).getLsbD 2 } 2)

/-- `LD SP,SP+d` and `LD SP,SP-d`: d is unsigned (the spec's decision D5: log 27), SP wraps modulo 65536, JF
is 1. -/
def Obligations.StackPointerMovesByUnsignedD : Prop :=
  ∀ (s : State) (d : Byte),
    exec (.ldSpPlusD d) s = .next ((s.putSp (BitVec.ofNat 16 (s.regs.sp.toNat + d.toNat))).afterFlags
      { s.psw with jf := true } 2)
    ∧ exec (.ldSpMinusD d) s = .next ((s.putSp
      (BitVec.ofInt 16 ((s.regs.sp.toNat : Int) - d.toNat))).afterFlags { s.psw with jf := true } 2)

/-- `XCH r,g`, `XCH rr,gg`, and `XCH r,(src)`, `XCH rr,(src)` under the default regions: each side takes
what the other held; ZF, for bytes only, says whether the byte that arrives in the first operand is
00H; with `(+SP)` SP is incremented before it is exchanged (40 R174, D17: log 27). -/
def Obligations.ExchangesSwapTheirOperands : Prop :=
  (∀ (s : State) (r g : Reg8) (rr gg : Reg16),
    exec (.xchRG r g) s = .next ((s.put8 g (s.get8 r)).after8 r (s.get8 g)
      { s.psw with jf := true, zf := decide (s.get8 g = 0) } 2)
    ∧ exec (.xchRrGg rr gg) s = .next ((s.put16 gg (s.get16 rr)).after16 rr (s.get16 gg)
      { s.psw with jf := true } 2)
    ∧ ((s.put8 g (s.get8 r)).put8 r (s.get8 g)).get8 g = s.get8 r)
  ∧ ∀ (s : State) (r : Reg8) (rr : Reg16) (m : Src), s.allRam →
    exec (.xchRSrc r m) s = .next (((srcBegin m s).setByte (srcAddr m s) (s.get8 r)).after8 r
      (s.byteAt (srcAddr m s))
      { s.psw with jf := true, zf := decide (s.byteAt (srcAddr m s) = 0) } (srcLen m 0))
    ∧ exec (.xchRrSrc rr m) s = .next
      (((srcBegin m s).setWord (srcAddr m s) ((srcBegin m s).get16 rr)).after16 rr
        (s.wordAt (srcAddr m s)) { s.psw with jf := true } (srcLen m 0))

/-! ## Compare, add, subtract -/

/-- The 8-bit forms on registers: `op A,n`, `op g,n`, `op r,g` for ADD, ADDC, SUB, SUBB, CMP: the
result, all six flags over the integers, nothing else changed; overflow is read as two's complement
overflow (00_scope.md R14; log 17). -/
def Obligations.ByteArithmeticOnRegisters : Prop :=
  ∀ (s : State) (n : Byte) (r g : Reg8),
    adds8 (exec (.addAN n) s) s .a n false 2 ∧ adds8 (exec (.addcAN n) s) s .a n s.psw.cf 2
    ∧ subtracts8 (exec (.subAN n) s) s .a n false 2
    ∧ subtracts8 (exec (.subbAN n) s) s .a n s.psw.cf 2
    ∧ compares8 (exec (.cmpAN n) s) s (s.get8 .a) n 2
    ∧ adds8 (exec (.addGN g n) s) s g n false 3 ∧ adds8 (exec (.addcGN g n) s) s g n s.psw.cf 3
    ∧ subtracts8 (exec (.subGN g n) s) s g n false 3
    ∧ subtracts8 (exec (.subbGN g n) s) s g n s.psw.cf 3
    ∧ compares8 (exec (.cmpGN g n) s) s (s.get8 g) n 3
    ∧ adds8 (exec (.addRG r g) s) s r (s.get8 g) false 2
    ∧ adds8 (exec (.addcRG r g) s) s r (s.get8 g) s.psw.cf 2
    ∧ subtracts8 (exec (.subRG r g) s) s r (s.get8 g) false 2
    ∧ subtracts8 (exec (.subbRG r g) s) s r (s.get8 g) s.psw.cf 2
    ∧ compares8 (exec (.cmpRG r g) s) s (s.get8 r) (s.get8 g) 2

/-- The 8-bit forms with a memory operand under the default regions: `op r,(src)`, and
`op (src),n` with the memory byte as first operand, written back but by CMP (VF: log 17). -/
def Obligations.ByteArithmeticOnMemory : Prop :=
  ∀ (s : State) (x n : Byte) (r : Reg8) (m : Src) (v : Byte), s.allRam → v = s.byteAt (srcAddr m s) →
    adds8 (exec (.addRSrc r m) s) (srcBegin m s) r v false (srcLen m 0)
    ∧ adds8 (exec (.addcRSrc r m) s) (srcBegin m s) r v s.psw.cf (srcLen m 0)
    ∧ subtracts8 (exec (.subRSrc r m) s) (srcBegin m s) r v false (srcLen m 0)
    ∧ subtracts8 (exec (.subbRSrc r m) s) (srcBegin m s) r v s.psw.cf (srcLen m 0)
    ∧ compares8 (exec (.cmpRSrc r m) s) (srcBegin m s) (s.get8 r) v (srcLen m 0)
    ∧ compares8 (exec (.cmpSrcN m n) s) (srcBegin m s) v n (srcLen m 1)
    ∧ compares8 (exec (.cmpXN x n) s) s (s.byteAt (zext16 x)) n 3
    ∧ (∃ p, exec (.addSrcN m n) s = .next (((srcBegin m s).setByte (srcAddr m s)
          (BitVec.ofNat 8 (v.toNat + n.toNat))).afterFlags p (srcLen m 1))
        ∧ SumFlags v n false p ∧ p.jf = p.cf ∧ p.hf = halfCarry v n false)
    ∧ (∃ p, exec (.addcSrcN m n) s = .next (((srcBegin m s).setByte (srcAddr m s)
          (BitVec.ofNat 8 (v.toNat + n.toNat + s.psw.cf.toNat))).afterFlags p (srcLen m 1))
        ∧ SumFlags v n s.psw.cf p ∧ p.jf = p.cf ∧ p.hf = halfCarry v n s.psw.cf)
    ∧ (∃ p, exec (.subSrcN m n) s = .next (((srcBegin m s).setByte (srcAddr m s)
          (BitVec.ofInt 8 (v.toNat - n.toNat))).afterFlags p (srcLen m 1))
        ∧ DifferenceFlags v n false p ∧ p.jf = p.cf ∧ p.hf = halfBorrow v n false)
    ∧ (∃ p, exec (.subbSrcN m n) s = .next (((srcBegin m s).setByte (srcAddr m s)
          (BitVec.ofInt 8 (v.toNat - n.toNat - s.psw.cf.toNat))).afterFlags p (srcLen m 1))
        ∧ DifferenceFlags v n s.psw.cf p ∧ p.jf = p.cf ∧ p.hf = halfBorrow v n s.psw.cf)

/-- The 16-bit forms `op gg,mn`, `op rr,gg`, and `op rr,(src)` under the default regions, for ADD,
ADDC, SUB, SUBB, CMP: the result and five flags over the integers (VF: log 17); HF may be
anything (log 12). -/
def Obligations.WordArithmetic : Prop :=
  (∀ (s : State) (rr gg : Reg16) (mn : Word),
    adds16 (exec (.addGgMn gg mn) s) s gg mn false 4
    ∧ adds16 (exec (.addcGgMn gg mn) s) s gg mn s.psw.cf 4
    ∧ subtracts16 (exec (.subGgMn gg mn) s) s gg mn false 4
    ∧ subtracts16 (exec (.subbGgMn gg mn) s) s gg mn s.psw.cf 4
    ∧ compares16 (exec (.cmpGgMn gg mn) s) s gg mn 4
    ∧ adds16 (exec (.addRrGg rr gg) s) s rr (s.get16 gg) false 2
    ∧ adds16 (exec (.addcRrGg rr gg) s) s rr (s.get16 gg) s.psw.cf 2
    ∧ subtracts16 (exec (.subRrGg rr gg) s) s rr (s.get16 gg) false 2
    ∧ subtracts16 (exec (.subbRrGg rr gg) s) s rr (s.get16 gg) s.psw.cf 2
    ∧ compares16 (exec (.cmpRrGg rr gg) s) s rr (s.get16 gg) 2)
  ∧ ∀ (s : State) (rr : Reg16) (m : Src), s.allRam →
    adds16 (exec (.addRrSrc rr m) s) (srcBegin m s) rr (s.wordAt (srcAddr m s)) false (srcLen m 0)
    ∧ adds16 (exec (.addcRrSrc rr m) s) (srcBegin m s) rr (s.wordAt (srcAddr m s)) s.psw.cf
        (srcLen m 0)
    ∧ subtracts16 (exec (.subRrSrc rr m) s) (srcBegin m s) rr (s.wordAt (srcAddr m s)) false
        (srcLen m 0)
    ∧ subtracts16 (exec (.subbRrSrc rr m) s) (srcBegin m s) rr (s.wordAt (srcAddr m s)) s.psw.cf
        (srcLen m 0)
    ∧ compares16 (exec (.cmpRrSrc rr m) s) (srcBegin m s) rr (s.wordAt (srcAddr m s)) (srcLen m 0)

/-- After `CMP r,g` the conditions of JR and JRS compare the two bytes, unsigned and signed
(45_jump.md R405 to R416); overflow is read as two's complement overflow (00_scope.md R14; log 17). -/
def Obligations.ComparedBytesOrderTheBranches : Prop :=
  ∀ (s : State) (r g : Reg8) (d : Byte), ∃ t, exec (.cmpRG r g) s = .next t
    ∧ jumps (exec (.jrZ d) t) t (decide (s.get8 r = s.get8 g)) (s.pc.toNat + 4 + d.toInt) 2
    ∧ jumps (exec (.jrNz d) t) t (decide (s.get8 r ≠ s.get8 g)) (s.pc.toNat + 4 + d.toInt) 2
    ∧ jumps (exec (.jrCs d) t) t (decide ((s.get8 r).toNat < (s.get8 g).toNat))
        (s.pc.toNat + 4 + d.toInt) 2
    ∧ jumps (exec (.jrCc d) t) t (decide ((s.get8 g).toNat ≤ (s.get8 r).toNat))
        (s.pc.toNat + 4 + d.toInt) 2
    ∧ jumps (exec (.jrLe d) t) t (decide ((s.get8 r).toNat ≤ (s.get8 g).toNat))
        (s.pc.toNat + 4 + d.toInt) 2
    ∧ jumps (exec (.jrGt d) t) t (decide ((s.get8 g).toNat < (s.get8 r).toNat))
        (s.pc.toNat + 4 + d.toInt) 2
    ∧ jumps (exec (.jrT d) t) t (decide (s.get8 r = s.get8 g)) (s.pc.toNat + 4 + d.toInt) 2
    ∧ jumps (exec (.jrF d) t) t (decide (s.get8 r ≠ s.get8 g)) (s.pc.toNat + 4 + d.toInt) 2
    ∧ jumps (exec (.jrSlt d) t) t (decide ((s.get8 r).toInt < (s.get8 g).toInt))
        (s.pc.toNat + 5 + d.toInt) 3
    ∧ jumps (exec (.jrSge d) t) t (decide ((s.get8 g).toInt ≤ (s.get8 r).toInt))
        (s.pc.toNat + 5 + d.toInt) 3
    ∧ jumps (exec (.jrSle d) t) t (decide ((s.get8 r).toInt ≤ (s.get8 g).toInt))
        (s.pc.toNat + 5 + d.toInt) 3
    ∧ jumps (exec (.jrSgt d) t) t (decide ((s.get8 g).toInt < (s.get8 r).toInt))
        (s.pc.toNat + 5 + d.toInt) 3

/-! ## Logic, increment, decimal adjust, multiply, divide, negate -/

/-- The logic operations on registers: `op A,n`, `op g,n`, `op r,g`, `op gg,mn`, `op rr,gg` for AND,
OR, XOR: JF and ZF are the zero of the result, the other flags stay (42 R260). -/
def Obligations.LogicOnRegisters : Prop :=
  ∀ (s : State) (n : Byte) (r g : Reg8) (rr gg : Reg16) (mn : Word),
    leaves8 (exec (.andAN n) s) s .a (s.get8 .a &&& n) 2
    ∧ leaves8 (exec (.orAN n) s) s .a (s.get8 .a ||| n) 2
    ∧ leaves8 (exec (.xorAN n) s) s .a (s.get8 .a ^^^ n) 2
    ∧ leaves8 (exec (.andGN g n) s) s g (s.get8 g &&& n) 3
    ∧ leaves8 (exec (.orGN g n) s) s g (s.get8 g ||| n) 3
    ∧ leaves8 (exec (.xorGN g n) s) s g (s.get8 g ^^^ n) 3
    ∧ leaves8 (exec (.andRG r g) s) s r (s.get8 r &&& s.get8 g) 2
    ∧ leaves8 (exec (.orRG r g) s) s r (s.get8 r ||| s.get8 g) 2
    ∧ leaves8 (exec (.xorRG r g) s) s r (s.get8 r ^^^ s.get8 g) 2
    ∧ leaves16 (exec (.andGgMn gg mn) s) s gg (s.get16 gg &&& mn) 4
    ∧ leaves16 (exec (.orGgMn gg mn) s) s gg (s.get16 gg ||| mn) 4
    ∧ leaves16 (exec (.xorGgMn gg mn) s) s gg (s.get16 gg ^^^ mn) 4
    ∧ leaves16 (exec (.andRrGg rr gg) s) s rr (s.get16 rr &&& s.get16 gg) 2
    ∧ leaves16 (exec (.orRrGg rr gg) s) s rr (s.get16 rr ||| s.get16 gg) 2
    ∧ leaves16 (exec (.xorRrGg rr gg) s) s rr (s.get16 rr ^^^ s.get16 gg) 2

/-- The logic operations with a memory operand under the default regions: `op r,(src)`,
`op rr,(src)`, and `op (src),n`, which writes the byte back. -/
def Obligations.LogicOnMemory : Prop :=
  ∀ (s : State) (n : Byte) (r : Reg8) (rr : Reg16) (m : Src) (v : Byte) (w : Word), s.allRam →
    v = s.byteAt (srcAddr m s) → w = s.wordAt (srcAddr m s) →
    leaves8 (exec (.andRSrc r m) s) (srcBegin m s) r (s.get8 r &&& v) (srcLen m 0)
    ∧ leaves8 (exec (.orRSrc r m) s) (srcBegin m s) r (s.get8 r ||| v) (srcLen m 0)
    ∧ leaves8 (exec (.xorRSrc r m) s) (srcBegin m s) r (s.get8 r ^^^ v) (srcLen m 0)
    ∧ leaves16 (exec (.andRrSrc rr m) s) (srcBegin m s) rr ((srcBegin m s).get16 rr &&& w) (srcLen m 0)
    ∧ leaves16 (exec (.orRrSrc rr m) s) (srcBegin m s) rr ((srcBegin m s).get16 rr ||| w) (srcLen m 0)
    ∧ leaves16 (exec (.xorRrSrc rr m) s) (srcBegin m s) rr ((srcBegin m s).get16 rr ^^^ w) (srcLen m 0)
    ∧ exec (.andSrcN m n) s = .next (((srcBegin m s).setByte (srcAddr m s) (v &&& n)).afterFlags
        { s.psw with jf := decide (v &&& n = 0), zf := decide (v &&& n = 0) } (srcLen m 1))
    ∧ exec (.orSrcN m n) s = .next (((srcBegin m s).setByte (srcAddr m s) (v ||| n)).afterFlags
        { s.psw with jf := decide (v ||| n = 0), zf := decide (v ||| n = 0) } (srcLen m 1))
    ∧ exec (.xorSrcN m n) s = .next (((srcBegin m s).setByte (srcAddr m s) (v ^^^ n)).afterFlags
        { s.psw with jf := decide (v ^^^ n = 0), zf := decide (v ^^^ n = 0) } (srcLen m 1))

/-- INC and DEC of a byte register, a word register and, under the default regions, a memory byte: JF
is the carry or borrow out, ZF the zero of the result, CF and the rest unchanged; byte and cycle of
INC r. -/
def Obligations.IncrementAndDecrement : Prop :=
  (∀ (s : State) (r : Reg8) (rr : Reg16),
    exec (.incR r) s = .next (s.after8 r (BitVec.ofNat 8 ((s.get8 r).toNat + 1))
      { s.psw with jf := decide (256 ≤ (s.get8 r).toNat + 1), zf := decide ((s.get8 r).toNat = 255) } 1)
    ∧ exec (.decR r) s = .next (s.after8 r (BitVec.ofInt 8 ((s.get8 r).toNat - 1))
      { s.psw with jf := decide ((s.get8 r).toNat < 1), zf := decide ((s.get8 r).toNat = 1) } 1)
    ∧ exec (.incRr rr) s = .next (s.after16 rr (BitVec.ofNat 16 ((s.get16 rr).toNat + 1))
      { s.psw with jf := decide (65536 ≤ (s.get16 rr).toNat + 1),
                   zf := decide ((s.get16 rr).toNat = 65535) } 1)
    ∧ encode (.incR r) = [0x20 + (Encode.code8 r).setWidth 8] ∧ cycles (.incR r) = some ⟨1, 1⟩
    ∧ exec (.decRr rr) s = .next (s.after16 rr (BitVec.ofInt 16 ((s.get16 rr).toNat - 1))
      { s.psw with jf := decide ((s.get16 rr).toNat < 1), zf := decide ((s.get16 rr).toNat = 1) } 1))
  ∧ ∀ (s : State) (m : Src) (v : Byte), s.allRam → v = s.byteAt (srcAddr m s) →
    exec (.incSrc m) s = .next (((srcBegin m s).setByte (srcAddr m s)
        (BitVec.ofNat 8 (v.toNat + 1))).afterFlags
      { s.psw with jf := decide (256 ≤ v.toNat + 1), zf := decide (v.toNat = 255) } (srcLen m 0))
    ∧ exec (.decSrc m) s = .next (((srcBegin m s).setByte (srcAddr m s)
        (BitVec.ofInt 8 (v.toNat - 1))).afterFlags
      { s.psw with jf := decide (v.toNat < 1), zf := decide (v.toNat = 1) } (srcLen m 0))

/-- DAA and DAS follow the rows of their tables: the byte added, CF after, JF the same, ZF the zero of
the result, HF the carry or borrow of the adjustment, SF and VF unchanged; in no row they complete all
the same, and the byte, CF and HF may be anything (42 R291, R292; log 15). -/
def Obligations.DecimalAdjustFollowsItsTable : Prop :=
  ∀ (s : State) (g : Reg8),
    (∀ row ∈ daaTable, row.matches (s.get8 g) s.psw → ∃ v, v = s.get8 g + BitVec.ofNat 8 row.add
      ∧ exec (.daa g) s = .next (s.after8 g v { s.psw with
          jf := row.cfAfter, zf := decide (v = 0), cf := row.cfAfter
          hf := decide (16 ≤ (s.get8 g).toNat % 16 + row.add % 16) } 2))
    ∧ (∀ row ∈ dasTable, row.matches (s.get8 g) s.psw → ∃ v, v = s.get8 g + BitVec.ofNat 8 row.add
      ∧ exec (.das g) s = .next (s.after8 g v { s.psw with
          jf := row.cfAfter, zf := decide (v = 0), cf := row.cfAfter, hf := false } 2))
    ∧ ((∀ row ∈ daaTable, ¬ row.matches (s.get8 g) s.psw) → ∃ v c h, exec (.daa g) s = .next
      { s.after8 g v { s.psw with jf := c, zf := decide (v = 0), cf := c, hf := h } 2 with
        draws := s.draws + 1 })
    ∧ ((∀ row ∈ dasTable, ¬ row.matches (s.get8 g) s.psw) → ∃ v c h, exec (.das g) s = .next
      { s.after8 g v { s.psw with jf := c, zf := decide (v = 0), cf := c, hf := h } 2 with
        draws := s.draws + 1 })

/-- Decimal arithmetic: ADDC then DAA, and SUBB then DAS, of two-digit numbers give the two-digit sum
and difference modulo 100, and CF the decimal carry and borrow (42 R291, R292). -/
def Obligations.DecimalAdjustMakesDecimalSums : Prop :=
  ∀ (s : State) (g : Reg8) (n : Byte), isBcd (s.get8 g) → isBcd n →
    (∃ t u, exec (.addcGN g n) s = .next t ∧ exec (.daa g) t = .next u ∧ isBcd (u.get8 g)
      ∧ bcdValue (u.get8 g) + 100 * u.psw.cf.toNat
          = bcdValue (s.get8 g) + bcdValue n + s.psw.cf.toNat)
    ∧ ∃ t u, exec (.subbGN g n) s = .next t ∧ exec (.das g) t = .next u ∧ isBcd (u.get8 g)
      ∧ (bcdValue (u.get8 g) : Int) - 100 * u.psw.cf.toNat
          = bcdValue (s.get8 g) - bcdValue n - s.psw.cf.toNat

/-- MUL: the unsigned product of the two halves replaces the pair; ZF and JF say whether its upper
byte is 00H; the rest stays. -/
def Obligations.MultiplyReplacesThePair : Prop :=
  ∀ (s : State) (q : Pair) (a b : Byte), s.get16 (pairReg q) = mkWord a b →
    exec (.mul q) s = .next (s.after16 (pairReg q) (BitVec.ofNat 16 (a.toNat * b.toNat))
      { s.psw with jf := decide (a.toNat * b.toNat < 256), zf := decide (a.toNat * b.toNat < 256) } 2)

/-- DIV of WA, DE or HL by C: the quotient to the low register, the remainder to the high one; with
divisor 0 or a quotient over FFH CF is 1 and both registers may be anything, and with divisor 0 ZF
and JF too, equal (42 R294; log 14). -/
def Obligations.DivideLeavesQuotientAndRemainder : Prop :=
  ∀ (s : State) (q : Pair) (n c : Nat), q ≠ .bc → n = (s.get16 (pairReg q)).toNat →
    c = s.regs.c.toNat →
    (c ≠ 0 → n / c < 256 → exec (.div q) s = .next (s.after16 (pairReg q)
      (BitVec.ofNat 16 (256 * (n % c) + n / c))
      { s.psw with jf := decide (n % c = 0), zf := decide (n % c = 0), cf := false } 2))
    ∧ (c ≠ 0 → 256 ≤ n / c → ∃ v, exec (.div q) s = .next
      { s.after16 (pairReg q) v
          { s.psw with jf := decide (n % c = 0), zf := decide (n % c = 0), cf := true } 2 with
        draws := s.draws + 2 })
    ∧ (c = 0 → ∃ v z, exec (.div q) s = .next
      { s.after16 (pairReg q) v { s.psw with jf := z, zf := z, cf := true } 2 with
        draws := s.draws + 3 })

/-- `NEG CS,gg`: only when CF is 1 the two's complement replaces the register; JF is 1 in both cases,
the other flags stay; 0000H and 8000H negate to themselves; its bytes and cycles. -/
def Obligations.NegateWhenCarrySet : Prop :=
  ∀ (s : State) (gg : Reg16),
    exec (.negCs gg) s = .next (s.after16 gg
      (if s.psw.cf then BitVec.ofInt 16 (-(s.get16 gg).toNat) else s.get16 gg)
      { s.psw with jf := true } 2)
    ∧ encode (.negCs gg) = [0xE8 + (Encode.code16 gg).setWidth 8, 0xFA]
    ∧ cycles (.negCs gg) = some ⟨3, 3⟩

/-! ## Shift, rotate, nibble -/

/-- SHLC, SHRC, ROLC, RORC by their arithmetic: the result, CF the bit shifted out, JF the same, ZF the
zero of the result, HF, SF, VF unchanged; their bytes and cycles. -/
def Obligations.ByteShiftsAndRotates : Prop :=
  ∀ (s : State) (g : Reg8) (v : Nat), v = (s.get8 g).toNat →
    (exec (.shlc g) s = .next (s.after8 g (BitVec.ofNat 8 (2 * v))
      { s.psw with jf := decide (128 ≤ v), zf := decide (2 * v % 256 = 0), cf := decide (128 ≤ v) } 2)
    ∧ exec (.shrc g) s = .next (s.after8 g (BitVec.ofNat 8 (v / 2))
      { s.psw with jf := decide (v % 2 = 1), zf := decide (v / 2 = 0), cf := decide (v % 2 = 1) } 2)
    ∧ exec (.rolc g) s = .next (s.after8 g (BitVec.ofNat 8 (2 * v + s.psw.cf.toNat))
      { s.psw with jf := decide (128 ≤ v), zf := decide ((2 * v + s.psw.cf.toNat) % 256 = 0),
                   cf := decide (128 ≤ v) } 2)
    ∧ exec (.rorc g) s = .next (s.after8 g (BitVec.ofNat 8 (v / 2 + 128 * s.psw.cf.toNat))
      { s.psw with jf := decide (v % 2 = 1), zf := decide (v / 2 + 128 * s.psw.cf.toNat = 0),
                   cf := decide (v % 2 = 1) } 2))
    ∧ encode (.shlc g) = [0xE8 + (Encode.code8 g).setWidth 8, 0xF4]
    ∧ encode (.shrc g) = [0xE8 + (Encode.code8 g).setWidth 8, 0xF5]
    ∧ encode (.rolc g) = [0xE8 + (Encode.code8 g).setWidth 8, 0xF6]
    ∧ encode (.rorc g) = [0xE8 + (Encode.code8 g).setWidth 8, 0xF7]
    ∧ cycles (.shlc g) = some ⟨2, 2⟩ ∧ cycles (.shrc g) = some ⟨2, 2⟩
    ∧ cycles (.rolc g) = some ⟨2, 2⟩ ∧ cycles (.rorc g) = some ⟨2, 2⟩

/-- SHLCA doubles and SHRCA halves the signed word, towards minus infinity: CF and JF the bit shifted
out, ZF and SF of the result, VF whether doubling leaves the signed range, 0 after halving; HF
unchanged. -/
def Obligations.WordArithmeticShifts : Prop :=
  ∀ (s : State) (gg : Reg16) (n : Nat) (z : Int), n = (s.get16 gg).toNat → z = (s.get16 gg).toInt →
    exec (.shlca gg) s = .next (s.after16 gg (BitVec.ofInt 16 (2 * z))
      { s.psw with jf := decide (32768 ≤ n), zf := decide (2 * n % 65536 = 0),
                   cf := decide (32768 ≤ n), sf := decide (32768 ≤ 2 * n % 65536),
                   vf := decide (2 * z < -32768 ∨ 32768 ≤ 2 * z) } 2)
    ∧ exec (.shrca gg) s = .next (s.after16 gg (BitVec.ofInt 16 (z / 2))
      { s.psw with jf := decide (n % 2 = 1), zf := decide (z / 2 = 0), cf := decide (n % 2 = 1),
                   sf := decide (z < 0), vf := false } 2)

/-- SWAP exchanges the nibbles of a register; ROLD and RORD, under the default regions, rotate the
twelve bits of a memory byte and A's low nibble by one digit; the flags but JF stay. -/
def Obligations.NibblesRotate : Prop :=
  (∀ (s : State) (g : Reg8), exec (.swap g) s = .next (s.after8 g
      (BitVec.ofNat 8 (16 * ((s.get8 g).toNat % 16) + (s.get8 g).toNat / 16))
      { s.psw with jf := true } 2))
  ∧ ∀ (s : State) (m : Src) (v a : Nat), s.allRam → v = (s.byteAt (srcAddr m s)).toNat →
    a = s.regs.a.toNat →
    exec (.rold m) s = .next (((srcBegin m s).setByte (srcAddr m s)
        (BitVec.ofNat 8 (16 * (v % 16) + a % 16))).after8 .a (BitVec.ofNat 8 (16 * (a / 16) + v / 16))
      { s.psw with jf := true } (srcLen m 0))
    ∧ exec (.rord m) s = .next (((srcBegin m s).setByte (srcAddr m s)
        (BitVec.ofNat 8 (16 * (a % 16) + v / 16))).after8 .a (BitVec.ofNat 8 (16 * (a / 16) + v % 16))
      { s.psw with jf := true } (srcLen m 0))

/-! ## Bits and flags -/

/-- SET, CLR, CPL of a register bit and LD of CF into it: one bit of one register changes; ZF and JF
are the inverse of the old bit, or JF is 1 for the load. -/
def Obligations.RegisterBitsChangeAlone : Prop :=
  ∀ (s : State) (g : Reg8) (b : BitVec 3),
    changesRegBit (exec (.setGB g b) s) s g b true
    ∧ changesRegBit (exec (.clrGB g b) s) s g b false
    ∧ changesRegBit (exec (.cplGB g b) s) s g b (!(s.get8 g).getLsbD b.toNat)
    ∧ ∃ v, isWithBit (s.get8 g) v b s.psw.cf
      ∧ exec (.ldGBCf g b) s = .next (s.after8 g v { s.psw with jf := true } 2)

/-- SET, CLR, CPL of a memory bit and LD of CF into it, by number and by the low three bits of A, under
the default regions: one bit of one byte changes, written back whole. -/
def Obligations.MemoryBitsChangeAlone : Prop :=
  ∀ (s : State) (m : Src) (b k : BitVec 3) (x : Byte) (a : Word), s.allRam → a = srcAddr m s →
    k.toNat = s.regs.a.toNat % 8 →
    changesMemBit (exec (.setSrcB m b) s) (srcBegin m s) a b true (srcLen m 0)
    ∧ changesMemBit (exec (.clrSrcB m b) s) (srcBegin m s) a b false (srcLen m 0)
    ∧ changesMemBit (exec (.cplSrcB m b) s) (srcBegin m s) a b (!(s.byteAt a).getLsbD b.toNat)
        (srcLen m 0)
    ∧ changesMemBit (exec (.setXB b x) s) s (x.setWidth 16) b true 2
    ∧ changesMemBit (exec (.clrXB b x) s) s (x.setWidth 16) b false 2
    ∧ changesMemBit (exec (.setSrcA m) s) (srcBegin m s) a k true (srcLen m 0)
    ∧ changesMemBit (exec (.clrSrcA m) s) (srcBegin m s) a k false (srcLen m 0)
    ∧ changesMemBit (exec (.cplSrcA m) s) (srcBegin m s) a k (!(s.byteAt a).getLsbD k.toNat)
        (srcLen m 0)
    ∧ (∃ v, isWithBit (s.byteAt a) v b s.psw.cf ∧ exec (.ldSrcBCf m b) s
        = .next (((srcBegin m s).setByte a v).afterFlags { s.psw with jf := true } (srcLen m 0)))
    ∧ ∃ v, isWithBit (s.byteAt a) v k s.psw.cf ∧ exec (.ldSrcACf m) s
        = .next (((srcBegin m s).setByte a v).afterFlags { s.psw with jf := true } (srcLen m 0))

/-- LD CF (TEST) and XOR CF of a register bit or, under the default regions, a memory bit: CF takes the
bit, or its exclusive or with CF, JF the inverse of the new CF; nothing else changes. -/
def Obligations.BitsLoadTheCarry : Prop :=
  (∀ (s : State) (g : Reg8) (b : BitVec 3),
    loadsCarry (exec (.ldCfGB g b) s) s ((s.get8 g).getLsbD b.toNat) 2
    ∧ loadsCarry (exec (.xorCfGB g b) s) s (s.psw.cf != (s.get8 g).getLsbD b.toNat) 2)
  ∧ ∀ (s : State) (m : Src) (b k : BitVec 3) (x : Byte), s.allRam → k.toNat = s.regs.a.toNat % 8 →
    loadsCarry (exec (.ldCfXB b x) s) s ((s.byteAt (x.setWidth 16)).getLsbD b.toNat) 2
    ∧ loadsCarry (exec (.ldCfSrcB m b) s) (srcBegin m s)
        ((s.byteAt (srcAddr m s)).getLsbD b.toNat) (srcLen m 0)
    ∧ loadsCarry (exec (.xorCfSrcB m b) s) (srcBegin m s)
        (s.psw.cf != (s.byteAt (srcAddr m s)).getLsbD b.toNat) (srcLen m 0)
    ∧ loadsCarry (exec (.ldCfSrcA m) s) (srcBegin m s)
        ((s.byteAt (srcAddr m s)).getLsbD k.toNat) (srcLen m 0)

/-- SET CF, CLR CF and CPL CF: the new CF, and JF its inverse; nothing else changes; their bytes and
cycles. -/
def Obligations.CarryFlagInstructions : Prop :=
  (∀ s : State, exec .setCf s = .next (s.afterFlags { s.psw with jf := false, cf := true } 1)
    ∧ exec .clrCf s = .next (s.afterFlags { s.psw with jf := true, cf := false } 1)
    ∧ exec .cplCf s = .next (s.afterFlags { s.psw with jf := s.psw.cf, cf := !s.psw.cf } 1))
  ∧ encode .setCf = [0x05] ∧ encode .clrCf = [0x04] ∧ encode .cplCf = [0x06]
  ∧ cycles .setCf = some ⟨1, 1⟩ ∧ cycles .clrCf = some ⟨1, 1⟩ ∧ cycles .cplCf = some ⟨1, 1⟩

/-- After every instruction IMF is bit 0 of the byte at 003AH, and the same as before where the
instruction does not store there. Under the default regions: EI and DI are SET and CLR of that bit,
the other seven bits stay, ZF and JF are the inverse of the old IMF; and each LD, LDW,
read-modify-write, PUSH gg or CALL mn that stores to 003AH leaves in IMF bit 0 of the byte it stores
there (10_state.md R36, the spec's decision D16: log 21). -/
def Obligations.InterruptEnableIsABitOfMemory : Prop :=
  (∀ (i : Instr) (s t : State), exec i s = .next t →
    t.imf = (t.byteAt 0x003A).getLsbD 0 ∧ (0x003A ∉ storedAt i s → t.imf = s.imf))
  ∧ ∀ (s : State) (n : Byte) (mn : Word) (r : Reg8) (rr : Reg16) (m : Src) (e : Dst) (b : BitVec 3),
    s.allRam → Memory.wf s.mem = true →
    changesMemBit (exec .ei s) s 0x003A 0 true 2 ∧ changesMemBit (exec .di s) s 0x003A 0 false 2
    ∧ leavesImf (exec .ei s) true ∧ leavesImf (exec .di s) false
    ∧ leavesImf (exec (.ldXN 0x3A n) s) (n.getLsbD 0)
    ∧ leavesImf (exec (.ldXA 0x3A) s) (s.regs.a.getLsbD 0)
    ∧ leavesImf (exec (.ldwXMn 0x3A mn) s) (mn.getLsbD 0)
    ∧ leavesImf (exec (.ldwXMn 0x39 mn) s) (mn.getLsbD 8)
    ∧ (s.get16 .hl = 0x003A → leavesImf (exec (.ldHlN n) s) (n.getLsbD 0)
      ∧ leavesImf (exec .ldHlA s) (s.regs.a.getLsbD 0)
      ∧ leavesImf (exec (.ldwHlMn mn) s) (mn.getLsbD 0))
    ∧ (s.get16 .hl = 0x0039 → leavesImf (exec (.ldwHlMn mn) s) (mn.getLsbD 8))
    ∧ (dstAddr e s = 0x003A → leavesImf (exec (.ldDstN e n) s) (n.getLsbD 0)
      ∧ leavesImf (exec (.ldDstR e r) s) ((s.get8 r).getLsbD 0)
      ∧ leavesImf (exec (.ldDstRr e rr) s) ((s.get16 rr).getLsbD 0))
    ∧ (dstAddr e s = 0x0039 → leavesImf (exec (.ldDstRr e rr) s) ((s.get16 rr).getLsbD 8))
    ∧ (srcAddr m s = 0x003A →
      leavesImf (exec (.andSrcN m n) s) (s.imf && n.getLsbD 0)
      ∧ leavesImf (exec (.orSrcN m n) s) (s.imf || n.getLsbD 0)
      ∧ leavesImf (exec (.xorSrcN m n) s) (s.imf != n.getLsbD 0)
      ∧ leavesImf (exec (.addSrcN m n) s) (s.imf != n.getLsbD 0)
      ∧ leavesImf (exec (.subSrcN m n) s) (s.imf != n.getLsbD 0)
      ∧ leavesImf (exec (.addcSrcN m n) s) ((s.imf != n.getLsbD 0) != s.psw.cf)
      ∧ leavesImf (exec (.subbSrcN m n) s) ((s.imf != n.getLsbD 0) != s.psw.cf)
      ∧ leavesImf (exec (.incSrc m) s) (!s.imf) ∧ leavesImf (exec (.decSrc m) s) (!s.imf)
      ∧ leavesImf (exec (.setSrcB m b) s) (if b = 0 then true else s.imf)
      ∧ leavesImf (exec (.clrSrcB m b) s) (if b = 0 then false else s.imf)
      ∧ leavesImf (exec (.cplSrcB m b) s) (if b = 0 then !s.imf else s.imf)
      ∧ leavesImf (exec (.ldSrcBCf m b) s) (if b = 0 then s.psw.cf else s.imf)
      ∧ leavesImf (exec (.setSrcA m) s) (if s.regs.a.toNat % 8 = 0 then true else s.imf)
      ∧ leavesImf (exec (.clrSrcA m) s) (if s.regs.a.toNat % 8 = 0 then false else s.imf)
      ∧ leavesImf (exec (.cplSrcA m) s) (if s.regs.a.toNat % 8 = 0 then !s.imf else s.imf)
      ∧ leavesImf (exec (.ldSrcACf m) s) (if s.regs.a.toNat % 8 = 0 then s.psw.cf else s.imf)
      ∧ leavesImf (exec (.rold m) s) (s.regs.a.getLsbD 0)
      ∧ leavesImf (exec (.rord m) s) ((s.byteAt 0x003A).getLsbD 4)
      ∧ leavesImf (exec (.xchRSrc r m) s) ((s.get8 r).getLsbD 0)
      ∧ leavesImf (exec (.xchRrSrc rr m) s) (((srcBegin m s).get16 rr).getLsbD 0))
    ∧ (srcAddr m s = 0x0039 →
      leavesImf (exec (.xchRrSrc rr m) s) (((srcBegin m s).get16 rr).getLsbD 8))
    ∧ (s.sp = 0x003A → leavesImf (exec (.pushGg rr) s) ((s.get16 rr).getLsbD 8)
      ∧ leavesImf (exec (.callMn mn) s) ((s.pc + 3).getLsbD 8))
    ∧ (s.sp = 0x003B → leavesImf (exec (.pushGg rr) s) ((s.get16 rr).getLsbD 0)
      ∧ leavesImf (exec (.callMn mn) s) ((s.pc + 3).getLsbD 0))

/-! ## Jumps, calls, returns -/

/-- JRS and JR: taken or not, the target from `$ + 2` or `$ + 3`, the length where not taken, JF 1 in
both cases, nothing else changed (45_jump.md R400 to R419; JF after a jump not taken is the spec's
decision D4: log 18). -/
def Obligations.RelativeJumpsFollowTheirConditions : Prop :=
  ∀ (s : State) (d : Byte) (e : BitVec 5) (p : Psw), p = s.psw →
    jumps (exec (.jrsT e) s) s p.jf (s.pc.toNat + 2 + e.toInt) 1
    ∧ jumps (exec (.jrsF e) s) s (!p.jf) (s.pc.toNat + 2 + e.toInt) 1
    ∧ jumps (exec (.jrT d) s) s p.jf (s.pc.toNat + 2 + d.toInt) 2
    ∧ jumps (exec (.jrF d) s) s (!p.jf) (s.pc.toNat + 2 + d.toInt) 2
    ∧ jumps (exec (.jrZ d) s) s p.zf (s.pc.toNat + 2 + d.toInt) 2
    ∧ jumps (exec (.jrNz d) s) s (!p.zf) (s.pc.toNat + 2 + d.toInt) 2
    ∧ jumps (exec (.jrCs d) s) s p.cf (s.pc.toNat + 2 + d.toInt) 2
    ∧ jumps (exec (.jrCc d) s) s (!p.cf) (s.pc.toNat + 2 + d.toInt) 2
    ∧ jumps (exec (.jrLe d) s) s (p.cf || p.zf) (s.pc.toNat + 2 + d.toInt) 2
    ∧ jumps (exec (.jrGt d) s) s (!p.cf && !p.zf) (s.pc.toNat + 2 + d.toInt) 2
    ∧ jumps (exec (.jrM d) s) s p.sf (s.pc.toNat + 3 + d.toInt) 3
    ∧ jumps (exec (.jrP d) s) s (!p.sf) (s.pc.toNat + 3 + d.toInt) 3
    ∧ jumps (exec (.jrSlt d) s) s (p.sf != p.vf) (s.pc.toNat + 3 + d.toInt) 3
    ∧ jumps (exec (.jrSge d) s) s (p.sf == p.vf) (s.pc.toNat + 3 + d.toInt) 3
    ∧ jumps (exec (.jrSle d) s) s (p.zf || p.sf != p.vf) (s.pc.toNat + 3 + d.toInt) 3
    ∧ jumps (exec (.jrSgt d) s) s (!p.zf && p.sf == p.vf) (s.pc.toNat + 3 + d.toInt) 3
    ∧ jumps (exec (.jrVs d) s) s p.vf (s.pc.toNat + 3 + d.toInt) 3
    ∧ jumps (exec (.jrVc d) s) s (!p.vf) (s.pc.toNat + 3 + d.toInt) 3
    ∧ jumps (exec (.jr d) s) s true (s.pc.toNat + 2 + d.toInt) 2

/-- `JP mn`, `JP gg`, and `JP (src)` under the default regions: PC is the target, no flag changes;
`JP (+SP)` moves SP by one; bytes and cycles of `JP mn` and `JP gg`. -/
def Obligations.JumpsReachTheirTarget : Prop :=
  (∀ (s : State) (mn : Word) (gg : Reg16),
    exec (.jpMn mn) s = .next { s with pc := mn }
    ∧ encode (.jpMn mn) = [0xFE, loByte mn, hiByte mn] ∧ cycles (.jpMn mn) = some ⟨4, 4⟩
    ∧ exec (.jpGg gg) s = .next { s with pc := s.get16 gg }
    ∧ encode (.jpGg gg) = [0xE8 + (Encode.code16 gg).setWidth 8, 0xFE]
    ∧ cycles (.jpGg gg) = some ⟨3, 3⟩)
  ∧ ∀ (s : State) (m : Src), s.allRam →
    exec (.jpSrc m) s = .next { srcBegin m s with pc := s.wordAt (srcAddr m s) }

/-- CALLV, `CALL mn`, `CALL gg` and `CALL (src)` under the default regions: the target is taken before
the push, the address of the next instruction is pushed, no flag changes; `CALL (+SP)` stores the
return address over the byte at the old SP and the target's low byte, and ends with SP one lower
(46 R436; operands before the push by the spec's decision D18: log 27). -/
def Obligations.CallsPushTheReturnAddress : Prop :=
  ∀ (s : State) (n : BitVec 4) (mn : Word) (gg : Reg16) (m : Src), s.allRam →
    Memory.wf s.mem = true →
    exec (.callv n) s = .next { s.pushed (s.pc + 1) with
      pc := s.wordAt (BitVec.ofNat 16 (0xFFC0 + 2 * n.toNat)) }
    ∧ exec (.callMn mn) s = .next { s.pushed (s.pc + 3) with pc := mn }
    ∧ exec (.callGg gg) s = .next { s.pushed (s.pc + 2) with pc := s.get16 gg }
    ∧ (m ≠ .incSp → exec (.callSrc m) s = .next
        { s.pushed (s.pc + BitVec.ofNat 16 (encode (.callSrc m)).length) with
          pc := s.wordAt (srcAddr m s) })
    ∧ exec (.callSrc .incSp) s = .next
        { (s.setWord s.sp (s.pc + 2)).putSp (s.sp - 1) with pc := s.wordAt (s.sp + 1) }

/-- RET under the default regions: PC from SP + 1 and SP + 2, SP plus 2, no flag changed; after
`CALL mn`, `CALL gg` or CALLV, whatever PC then is, it leads back to the next instruction with the
registers and flags of the call. -/
def Obligations.ReturnUndoesTheCall : Prop :=
  ∀ (s : State) (mn pc : Word) (gg : Reg16) (n : BitVec 4), s.allRam → Memory.wf s.mem = true →
    exec .ret s = .next { s.putSp (s.sp + 2) with pc := s.wordAt (s.sp + 1) }
    ∧ (∃ t u, exec (.callMn mn) s = .next t ∧ exec .ret { t with pc := pc } = .next u
        ∧ u.pc = s.pc + 3 ∧ u.regs = s.regs ∧ u.psw = s.psw)
    ∧ (∃ t u, exec (.callGg gg) s = .next t ∧ exec .ret { t with pc := pc } = .next u
        ∧ u.pc = s.pc + 2 ∧ u.regs = s.regs ∧ u.psw = s.psw)
    ∧ ∃ t u, exec (.callv n) s = .next t ∧ exec .ret { t with pc := pc } = .next u
        ∧ u.pc = s.pc + 1 ∧ u.regs = s.regs ∧ u.psw = s.psw

/-- NOP changes PC only; its byte and cycles. -/
def Obligations.NopOnlyAdvances : Prop :=
  (∀ s : State, exec .nop s = .next { s with pc := s.pc + 1 })
  ∧ encode .nop = [0x00] ∧ cycles .nop = some ⟨1, 1⟩

/-! ## Handlers, events, regions -/

/-- SWI under the default regions: the frame of three bytes, SP less 3, IMF cleared, the flags
unchanged, PC from FFFCH and FFFDH; bit 1 of the PSW byte may be anything (46 R443; log 13). -/
def Obligations.SoftwareInterruptEntersItsHandler : Prop :=
  ∀ s : State, s.allRam → entersHandler (exec .swi s) s (s.pc + 1) 0xFFFC

/-- RETI and RETN under the default regions: PC from SP + 1 and SP + 2, the flags from bits 7 to 2 and
IMF from bit 0 of the byte at SP + 3, SP plus 3. -/
def Obligations.InterruptReturnsRestoreTheFrame : Prop :=
  ∀ (s : State) (b : Byte) (u : State), s.allRam → b = s.byteAt (s.sp + 3) →
    u = { (s.withImf (b.getLsbD 0)).putSp (s.sp + 3) with
      pc := s.wordAt (s.sp + 1)
      psw := { jf := b.getLsbD 7, zf := b.getLsbD 6, cf := b.getLsbD 5, hf := b.getLsbD 4,
               sf := b.getLsbD 3, vf := b.getLsbD 2 } } →
    exec .reti s = .next u ∧ exec .retn s = .next u

/-- After SWI, where the frame does not lie on 003AH, IMF is 0 and the flags are as before; RETI there,
whatever PC then is, leads to the instruction after SWI with the registers, the flags, IMF and every
byte outside the frame as before SWI (46 R441, R443, 60_exceptions.md R465). -/
def Obligations.InterruptReturnUndoesSoftwareInterrupt : Prop :=
  ∀ (s : State) (pc : Word), s.allRam → s.Inv → s.sp ≠ 0x003A → s.sp - 1 ≠ 0x003A →
    s.sp - 2 ≠ 0x003A →
    ∃ t u, exec .swi s = .next t ∧ exec .reti { t with pc := pc } = .next u
      ∧ t.imf = false ∧ t.psw = s.psw ∧ u.pc = s.pc + 1 ∧ u.regs = s.regs ∧ u.psw = s.psw
      ∧ u.imf = s.imf
      ∧ ∀ a, a ≠ s.sp → a ≠ s.sp - 1 → a ≠ s.sp - 2 → u.byteAt a = s.byteAt a

/-- A reset offered at a boundary is accepted before anything else: registers, PC, flags and memory are
those of `reset_state`, the rest of the run's parameters stays (70_reset_and_hazards.md R480; what
stays and that it comes first are the model's choice: log 23). -/
def Obligations.ResetEventReloadsTheMachine : Prop :=
  ∀ s : State, s.haltAddress ≠ some s.pc → .reset ∈ s.offers →
    step s = .next { s with
      regs := s.launch.regs, pc := s.launch.pc, psw := s.launch.psw, mem := s.launch.mem
      schedule := s.schedule.tail }

/-- Interrupts at a boundary under the default regions: an Nmi is accepted whatever IMF is, before a
maskable interrupt; a maskable interrupt is accepted exactly when IMF is 1, else the instruction at PC
runs; the return address is the address of the instruction that would have executed
(60_exceptions.md R461, R462, R464, the spec's decision D11; log 22). -/
def Obligations.InterruptsAreAcceptedAtBoundaries : Prop :=
  ∀ (s : State) (k : Nat) (es : List HostEvent), s.allRam → s.haltAddress ≠ some s.pc →
    .reset ∉ s.offers →
    (.nmi ∈ s.offers → entersHandler (step s) s.pastOffers s.pc Config.nmiVector)
    ∧ (s.offers = .interrupt k :: es → .nmi ∉ es → s.imf = true →
        entersHandler (step s) s.pastOffers s.pc (Config.irqVector k))
    ∧ (.nmi ∉ s.offers → s.imf = false → ∀ i : Instr,
        decode [s.codeByte 0, s.codeByte 1, s.codeByte 2, s.codeByte 3, s.codeByte 4] = .instr i →
        step s = exec i s.pastOffers)

/-- A store to `rom` is dropped, a store to a device and a load from one are recorded and give some
value, an access to an absent address stops with its address; and so do the word, read-modify-write
and stack accesses, byte by byte, where none of their addresses is absent (where one is,
StopsNameTheirCause says that they stop; 20_memory.md R57, R58, R59, the spec's decisions D12 and D14;
log 5, log 6, log 7, log 20). -/
def Obligations.RegionsDecideTheAccess : Prop :=
  (∀ (s : State) (r : Reg8) (m : Src) (e : Dst),
    (s.kindAt (dstAddr e s) = .rom →
      exec (.ldDstR e r) s = .next ((dstEnd e s).afterFlags { s.psw with jf := true } (dstLen e 0)))
    ∧ (s.kindAt (dstAddr e s) = .device →
      exec (.ldDstR e r) s = .next ((dstEnd e (s.logDevice (.write (dstAddr e s) (s.get8 r)))).afterFlags
        { s.psw with jf := true } (dstLen e 0)))
    ∧ (s.kindAt (dstAddr e s) = .absent →
      exec (.ldDstR e r) s = .fault (.absentMemory (dstAddr e s)))
    ∧ (s.kindAt (srcAddr m s) = .rom →
      exec (.ldRSrc r m) s = .next ((srcBegin m s).after8 r (s.byteAt (srcAddr m s))
        { s.psw with jf := true, zf := decide (s.byteAt (srcAddr m s) = 0) } (srcLen m 0)))
    ∧ (s.kindAt (srcAddr m s) = .device →
      ∃ v, exec (.ldRSrc r m) s = .next (((srcBegin m s).logDevice (.read (srcAddr m s) v)).after8 r v
        { s.psw with jf := true, zf := decide (v = 0) } (srcLen m 0)))
    ∧ (s.kindAt (srcAddr m s) = .absent →
      exec (.ldRSrc r m) s = .fault (.absentMemory (srcAddr m s)))
    ∧ (s.regions = [] → s.allRam)
    ∧ ∀ (g : Region) (gs : List Region) (a : Word), s.regions = g :: gs →
      (g.first ≤ a ∧ a ≤ g.last → s.kindAt a = g.kind)
      ∧ (¬ (g.first ≤ a ∧ a ≤ g.last) → s.kindAt a = kindIn gs a))
  ∧ ∀ (s t : State) (r : Reg8) (rr : Reg16) (m : Src) (e : Dst) (a mn : Word) (v : Byte) (p : Psw),
    t = srcBegin m s → a = srcAddr m s → v = t.readAt a → p = { s.psw with jf := true } →
    ((∀ c ∈ accessedBy (.ldRrSrc rr m) s, s.kindAt c ≠ .absent) → exec (.ldRrSrc rr m) s
      = .next ((t.afterWordRead a).after16 rr (t.wordReadAt a) p (srcLen m 0)))
    ∧ ((∀ c ∈ accessedBy (.ldDstRr e rr) s, s.kindAt c ≠ .absent) → exec (.ldDstRr e rr) s
      = .next ((dstEnd e (s.afterWordWrite (dstAddr e s) (s.get16 rr))).afterFlags p (dstLen e 0)))
    ∧ (s.kindAt a ≠ .absent → exec (.incSrc m) s
      = .next (((t.afterRead a).afterWrite a (BitVec.ofNat 8 (v.toNat + 1))).afterFlags
        { s.psw with jf := decide (256 ≤ v.toNat + 1), zf := decide (v.toNat = 255) } (srcLen m 0)))
    ∧ (s.kindAt a ≠ .absent → exec (.xchRSrc r m) s
      = .next (((t.afterRead a).afterWrite a (s.get8 r)).after8 r v
        { s.psw with jf := true, zf := decide (v = 0) } (srcLen m 0)))
    ∧ ((∀ c ∈ accessedBy (.xchRrSrc rr m) s, s.kindAt c ≠ .absent) → exec (.xchRrSrc rr m) s
      = .next (((t.afterWordRead a).afterWordWrite a (t.get16 rr)).after16 rr (t.wordReadAt a) p
        (srcLen m 0)))
    ∧ ((∀ c ∈ accessedBy (.pushGg rr) s, s.kindAt c ≠ .absent) → exec (.pushGg rr) s
      = .next ((s.afterPush (s.get16 rr)).afterFlags s.psw 2))
    ∧ ((∀ c ∈ accessedBy (.popGg rr) s, s.kindAt c ≠ .absent) → exec (.popGg rr) s
      = .next (((s.afterWordRead (s.sp + 1)).putSp (s.sp + 2)).after16 rr (s.wordReadAt (s.sp + 1))
        s.psw 2))
    ∧ ((∀ c ∈ accessedBy (.callMn mn) s, s.kindAt c ≠ .absent) → exec (.callMn mn) s
      = .next { s.afterPush (s.pc + 3) with pc := mn })
    ∧ ((∀ c ∈ accessedBy .ret s, s.kindAt c ≠ .absent) → exec .ret s
      = .next { (s.afterWordRead (s.sp + 1)).putSp (s.sp + 2) with pc := s.wordReadAt (s.sp + 1) })

/-- A byte stored is the byte loaded from the same address next, by an instruction or by the fetch of
the next step, and the other bytes stay (20_memory.md R62, R65, the spec's decision D14: log 25). The
last clause: a step runs the instruction whose bytes stand at PC once the stored byte has taken its
place among them. -/
def Obligations.StoredByteIsReadBack : Prop :=
  ∀ (s t : State) (e : Dst) (r : Reg8), s.allRam → s.Inv → exec (.ldDstR e r) s = .next t →
    t.byteAt (dstAddr e s) = s.get8 r
    ∧ (∀ a, a ≠ dstAddr e s → t.byteAt a = s.byteAt a)
    ∧ (∀ (m : Src) (q : Reg8), srcAddr m t = dstAddr e s →
      ∃ u, exec (.ldRSrc q m) t = .next u ∧ u.get8 q = s.get8 r)
    ∧ ∀ i : Instr, t.haltAddress ≠ some t.pc → t.offers = [] → i.wellFormed = true →
      (∀ k, k < (encode i).length → (encode i)[k]? = some
        (if t.pc + BitVec.ofNat 16 k = dstAddr e s then s.get8 r
          else s.byteAt (t.pc + BitVec.ofNat 16 k))) →
      step t = exec i t.pastOffers
end

