-- ==== Sys2Proof/Laws/Memory.lean ====
section
/-! SUPPORT. Memory: a byte read after a byte written, and the canonical form, which every memory
operation keeps. -/

namespace Sys2Proof.Machine

/-- A byte is listed only above the addresses below it. -/
theorem Memory.above_trans {m : Memory} {a b : Nat} (hab : a ≤ b) (h : Memory.above b m = true) :
    Memory.above a m = true := by
  cases m with
  | nil => rfl
  | cons c m => simp only [Memory.above, decide_eq_true_eq] at *; omega

/-- An address below all the listed ones reads as an unlisted one. -/
theorem Memory.get_below : ∀ (m : Memory) (a : Nat), Memory.wf m = true → Memory.above a m = true →
    m.get a = unlistedByte
  | [], _, _, _ => rfl
  | (k, v) :: m, a, hw, ha => by
    simp only [Memory.wf, Memory.above, Bool.and_eq_true, decide_eq_true_eq] at hw ha
    obtain ⟨⟨_, hk⟩, hm⟩ := hw
    have : ¬ a = k := by omega
    simp only [Memory.get, this, if_false]
    exact Memory.get_below m a hm (Memory.above_trans (Nat.le_of_lt ha) hk)

/-- A byte read where it was written (20_memory.md R59, R62). -/
@[simp] theorem Memory.get_set_same : ∀ (m : Memory) (a : Nat) (v : Byte), Memory.wf m = true →
    (m.set a v).get a = v
  | [], a, v, _ => by
    by_cases h : v = unlistedByte <;> simp [Memory.set, Memory.get, h]
  | (k, w) :: m, a, v, hw => by
    have hw' := hw
    simp only [Memory.wf, Bool.and_eq_true, decide_eq_true_eq] at hw'
    obtain ⟨⟨_, hk⟩, hm⟩ := hw'
    unfold Memory.set
    split
    · rename_i hlt
      split
      · subst v; exact Memory.get_below _ _ hw (by simpa [Memory.above] using hlt)
      · simp [Memory.get]
    · split
      · subst a
        split
        · subst v; exact Memory.get_below _ _ hm hk
        · simp [Memory.get]
      · rename_i h1 h2
        simp only [Memory.get, h2, if_false]
        exact Memory.get_set_same m a v hm

/-- A byte read elsewhere than where one was written. -/
@[simp] theorem Memory.get_set_other : ∀ (m : Memory) (a b : Nat) (v : Byte), b ≠ a →
    (m.set a v).get b = m.get b
  | [], a, b, v, h => by
    by_cases hv : v = unlistedByte <;> simp [Memory.set, Memory.get, hv, h]
  | (k, w) :: m, a, b, v, h => by
    unfold Memory.set
    split
    · split <;> simp [Memory.get, h]
    · split
      · subst a; split <;> simp [Memory.get, h]
      · simp only [Memory.get, Memory.get_set_other m a b v h]

/-- Below a write, all stays above. -/
theorem Memory.above_set {k a : Nat} {v : Byte} : ∀ {m : Memory}, k < a →
    Memory.above k m = true → Memory.wf m = true → Memory.above k (m.set a v) = true
  | [], hk, _, _ => by
    by_cases hv : v = unlistedByte <;> simp [Memory.set, Memory.above, hv, hk]
  | (j, w) :: m, hk, ha, hw => by
    simp only [Memory.wf, Bool.and_eq_true, decide_eq_true_eq] at hw
    obtain ⟨⟨_, hj⟩, _⟩ := hw
    have hkj : k < j := by simpa [Memory.above] using ha
    unfold Memory.set
    split
    · split <;> simp [Memory.above, hk, hkj]
    · split
      · split
        · exact Memory.above_trans (Nat.le_of_lt hkj) hj
        · simpa [Memory.above] using hk
      · simpa [Memory.above] using hkj

/-- A write keeps the canonical form. -/
theorem Memory.wf_set : ∀ {m : Memory} {a : Nat} {v : Byte}, Memory.wf m = true → a < 65536 →
    Memory.wf (m.set a v) = true
  | [], a, v, _, ha => by
    by_cases hv : v = unlistedByte <;> simp [Memory.set, Memory.wf, Memory.above, hv, ha]
  | (k, w) :: m, a, v, hw, ha => by
    have hw' := hw
    simp only [Memory.wf, Bool.and_eq_true, decide_eq_true_eq] at hw'
    obtain ⟨⟨⟨h1, h2⟩, hk⟩, hm⟩ := hw'
    unfold Memory.set
    split
    · rename_i hlt
      split
      · exact hw
      · rename_i hv
        have hka : Memory.above a ((k, w) :: m) = true := by simpa [Memory.above] using hlt
        rw [Memory.wf, hka, hw]
        simp [ha, hv]
    · split
      · subst a
        split
        · exact hm
        · rename_i hv
          simp [Memory.wf, ha, hv, hk, hm]
      · rename_i hlt hne
        simp only [Memory.wf, Bool.and_eq_true, decide_eq_true_eq]
        exact ⟨⟨⟨h1, h2⟩, Memory.above_set (by omega) hk hm⟩, Memory.wf_set hm ha⟩

/-- A byte written at an address keeps the canonical form. -/
theorem Memory.wf_setByte {s : State} (a : Word) (v : Byte) (h : Memory.wf s.mem = true) :
    Memory.wf (s.setByte a v).mem = true := Memory.wf_set h a.isLt

/-- Bytes placed one after another keep the canonical form. -/
theorem Memory.wf_placeBytes : ∀ (bs : List Byte) (a : Word) (m : Memory), Memory.wf m = true →
    Memory.wf (placeBytes bs a m) = true
  | [], _, _, h => h
  | _ :: bs, a, _, h => Memory.wf_placeBytes bs (a + 1) _ (Memory.wf_set h a.isLt)

/-- The memory after reset has the canonical form. -/
theorem Memory.wf_reset : Memory.wf State.reset.mem = true := rfl

/-- A byte of the state read where it was written. -/
@[simp] theorem State.byteAt_setByte_same (s : State) (a : Word) (v : Byte)
    (h : Memory.wf s.mem = true) : (s.setByte a v).byteAt a = v := Memory.get_set_same _ _ _ h

/-- A byte of the state read elsewhere. -/
@[simp] theorem State.byteAt_setByte_other (s : State) (a b : Word) (v : Byte) (h : b ≠ a) :
    (s.setByte a v).byteAt b = s.byteAt b :=
  Memory.get_set_other _ _ _ _ fun hn => h (BitVec.eq_of_toNat_eq hn)

end Sys2Proof.Machine
end

