-- ==== Sys2Proof/Laws/State.lean ====
section
/-! SUPPORT. One lemma per field of State per named update, and the register file's own laws. -/

namespace Sys2Proof.Machine

/-! ## Fields after updates -/

@[simp] theorem State.put8_regs (s : State) (r : Reg8) (v : Byte) :
    (s.put8 r v).regs = s.regs.put8 r v := rfl
@[simp] theorem State.put8_pc (s : State) (r : Reg8) (v : Byte) : (s.put8 r v).pc = s.pc := rfl
@[simp] theorem State.put8_psw (s : State) (r : Reg8) (v : Byte) : (s.put8 r v).psw = s.psw := rfl
@[simp] theorem State.put8_mem (s : State) (r : Reg8) (v : Byte) : (s.put8 r v).mem = s.mem := rfl
@[simp] theorem State.put8_regions (s : State) (r : Reg8) (v : Byte) :
    (s.put8 r v).regions = s.regions := rfl
@[simp] theorem State.put8_haltAddress (s : State) (r : Reg8) (v : Byte) :
    (s.put8 r v).haltAddress = s.haltAddress := rfl
@[simp] theorem State.put8_launch (s : State) (r : Reg8) (v : Byte) :
    (s.put8 r v).launch = s.launch := rfl
@[simp] theorem State.put8_schedule (s : State) (r : Reg8) (v : Byte) :
    (s.put8 r v).schedule = s.schedule := rfl
@[simp] theorem State.put8_deviceLog (s : State) (r : Reg8) (v : Byte) :
    (s.put8 r v).deviceLog = s.deviceLog := rfl
@[simp] theorem State.put8_draws (s : State) (r : Reg8) (v : Byte) :
    (s.put8 r v).draws = s.draws := rfl

@[simp] theorem State.put16_regs (s : State) (rr : Reg16) (v : Word) :
    (s.put16 rr v).regs = s.regs.put16 rr v := rfl
@[simp] theorem State.put16_pc (s : State) (rr : Reg16) (v : Word) : (s.put16 rr v).pc = s.pc := rfl
@[simp] theorem State.put16_psw (s : State) (rr : Reg16) (v : Word) :
    (s.put16 rr v).psw = s.psw := rfl
@[simp] theorem State.put16_mem (s : State) (rr : Reg16) (v : Word) :
    (s.put16 rr v).mem = s.mem := rfl
@[simp] theorem State.put16_regions (s : State) (rr : Reg16) (v : Word) :
    (s.put16 rr v).regions = s.regions := rfl
@[simp] theorem State.put16_haltAddress (s : State) (rr : Reg16) (v : Word) :
    (s.put16 rr v).haltAddress = s.haltAddress := rfl
@[simp] theorem State.put16_launch (s : State) (rr : Reg16) (v : Word) :
    (s.put16 rr v).launch = s.launch := rfl
@[simp] theorem State.put16_schedule (s : State) (rr : Reg16) (v : Word) :
    (s.put16 rr v).schedule = s.schedule := rfl
@[simp] theorem State.put16_deviceLog (s : State) (rr : Reg16) (v : Word) :
    (s.put16 rr v).deviceLog = s.deviceLog := rfl
@[simp] theorem State.put16_draws (s : State) (rr : Reg16) (v : Word) :
    (s.put16 rr v).draws = s.draws := rfl

@[simp] theorem State.putSp_regs (s : State) (v : Word) :
    (s.putSp v).regs = { s.regs with sp := v } := rfl
@[simp] theorem State.putSp_pc (s : State) (v : Word) : (s.putSp v).pc = s.pc := rfl
@[simp] theorem State.putSp_psw (s : State) (v : Word) : (s.putSp v).psw = s.psw := rfl
@[simp] theorem State.putSp_mem (s : State) (v : Word) : (s.putSp v).mem = s.mem := rfl
@[simp] theorem State.putSp_regions (s : State) (v : Word) : (s.putSp v).regions = s.regions := rfl
@[simp] theorem State.putSp_haltAddress (s : State) (v : Word) :
    (s.putSp v).haltAddress = s.haltAddress := rfl
@[simp] theorem State.putSp_launch (s : State) (v : Word) : (s.putSp v).launch = s.launch := rfl
@[simp] theorem State.putSp_schedule (s : State) (v : Word) :
    (s.putSp v).schedule = s.schedule := rfl
@[simp] theorem State.putSp_deviceLog (s : State) (v : Word) :
    (s.putSp v).deviceLog = s.deviceLog := rfl
@[simp] theorem State.putSp_draws (s : State) (v : Word) : (s.putSp v).draws = s.draws := rfl

@[simp] theorem State.putPc_regs (s : State) (v : Word) : (s.putPc v).regs = s.regs := rfl
@[simp] theorem State.putPc_pc (s : State) (v : Word) : (s.putPc v).pc = v := rfl
@[simp] theorem State.putPc_psw (s : State) (v : Word) : (s.putPc v).psw = s.psw := rfl
@[simp] theorem State.putPc_mem (s : State) (v : Word) : (s.putPc v).mem = s.mem := rfl
@[simp] theorem State.putPc_regions (s : State) (v : Word) : (s.putPc v).regions = s.regions := rfl
@[simp] theorem State.putPc_haltAddress (s : State) (v : Word) :
    (s.putPc v).haltAddress = s.haltAddress := rfl
@[simp] theorem State.putPc_launch (s : State) (v : Word) : (s.putPc v).launch = s.launch := rfl
@[simp] theorem State.putPc_schedule (s : State) (v : Word) :
    (s.putPc v).schedule = s.schedule := rfl
@[simp] theorem State.putPc_deviceLog (s : State) (v : Word) :
    (s.putPc v).deviceLog = s.deviceLog := rfl
@[simp] theorem State.putPc_draws (s : State) (v : Word) : (s.putPc v).draws = s.draws := rfl

@[simp] theorem State.advance_regs (s : State) (len : Nat) : (s.advance len).regs = s.regs := rfl
@[simp] theorem State.advance_pc (s : State) (len : Nat) :
    (s.advance len).pc = s.pc + BitVec.ofNat 16 len := rfl
@[simp] theorem State.advance_psw (s : State) (len : Nat) : (s.advance len).psw = s.psw := rfl
@[simp] theorem State.advance_mem (s : State) (len : Nat) : (s.advance len).mem = s.mem := rfl
@[simp] theorem State.advance_regions (s : State) (len : Nat) :
    (s.advance len).regions = s.regions := rfl
@[simp] theorem State.advance_haltAddress (s : State) (len : Nat) :
    (s.advance len).haltAddress = s.haltAddress := rfl
@[simp] theorem State.advance_launch (s : State) (len : Nat) :
    (s.advance len).launch = s.launch := rfl
@[simp] theorem State.advance_schedule (s : State) (len : Nat) :
    (s.advance len).schedule = s.schedule := rfl
@[simp] theorem State.advance_deviceLog (s : State) (len : Nat) :
    (s.advance len).deviceLog = s.deviceLog := rfl
@[simp] theorem State.advance_draws (s : State) (len : Nat) : (s.advance len).draws = s.draws := rfl

@[simp] theorem State.putPsw_regs (s : State) (p : Psw) : (s.putPsw p).regs = s.regs := rfl
@[simp] theorem State.putPsw_pc (s : State) (p : Psw) : (s.putPsw p).pc = s.pc := rfl
@[simp] theorem State.putPsw_psw (s : State) (p : Psw) : (s.putPsw p).psw = p := rfl
@[simp] theorem State.putPsw_mem (s : State) (p : Psw) : (s.putPsw p).mem = s.mem := rfl
@[simp] theorem State.putPsw_regions (s : State) (p : Psw) : (s.putPsw p).regions = s.regions := rfl
@[simp] theorem State.putPsw_haltAddress (s : State) (p : Psw) :
    (s.putPsw p).haltAddress = s.haltAddress := rfl
@[simp] theorem State.putPsw_launch (s : State) (p : Psw) : (s.putPsw p).launch = s.launch := rfl
@[simp] theorem State.putPsw_schedule (s : State) (p : Psw) :
    (s.putPsw p).schedule = s.schedule := rfl
@[simp] theorem State.putPsw_deviceLog (s : State) (p : Psw) :
    (s.putPsw p).deviceLog = s.deviceLog := rfl
@[simp] theorem State.putPsw_draws (s : State) (p : Psw) : (s.putPsw p).draws = s.draws := rfl

@[simp] theorem State.putJf_regs (s : State) (v : Bool) : (s.putJf v).regs = s.regs := rfl
@[simp] theorem State.putJf_pc (s : State) (v : Bool) : (s.putJf v).pc = s.pc := rfl
@[simp] theorem State.putJf_psw (s : State) (v : Bool) :
    (s.putJf v).psw = { s.psw with jf := v } := rfl
@[simp] theorem State.putJf_mem (s : State) (v : Bool) : (s.putJf v).mem = s.mem := rfl
@[simp] theorem State.putJf_regions (s : State) (v : Bool) : (s.putJf v).regions = s.regions := rfl
@[simp] theorem State.putJf_haltAddress (s : State) (v : Bool) :
    (s.putJf v).haltAddress = s.haltAddress := rfl
@[simp] theorem State.putJf_launch (s : State) (v : Bool) : (s.putJf v).launch = s.launch := rfl
@[simp] theorem State.putJf_schedule (s : State) (v : Bool) :
    (s.putJf v).schedule = s.schedule := rfl
@[simp] theorem State.putJf_deviceLog (s : State) (v : Bool) :
    (s.putJf v).deviceLog = s.deviceLog := rfl
@[simp] theorem State.putJf_draws (s : State) (v : Bool) : (s.putJf v).draws = s.draws := rfl

@[simp] theorem State.putJfZf_regs (s : State) (j z : Bool) : (s.putJfZf j z).regs = s.regs := rfl
@[simp] theorem State.putJfZf_pc (s : State) (j z : Bool) : (s.putJfZf j z).pc = s.pc := rfl
@[simp] theorem State.putJfZf_psw (s : State) (j z : Bool) :
    (s.putJfZf j z).psw = { s.psw with jf := j, zf := z } := rfl
@[simp] theorem State.putJfZf_mem (s : State) (j z : Bool) : (s.putJfZf j z).mem = s.mem := rfl
@[simp] theorem State.putJfZf_regions (s : State) (j z : Bool) :
    (s.putJfZf j z).regions = s.regions := rfl
@[simp] theorem State.putJfZf_haltAddress (s : State) (j z : Bool) :
    (s.putJfZf j z).haltAddress = s.haltAddress := rfl
@[simp] theorem State.putJfZf_launch (s : State) (j z : Bool) :
    (s.putJfZf j z).launch = s.launch := rfl
@[simp] theorem State.putJfZf_schedule (s : State) (j z : Bool) :
    (s.putJfZf j z).schedule = s.schedule := rfl
@[simp] theorem State.putJfZf_deviceLog (s : State) (j z : Bool) :
    (s.putJfZf j z).deviceLog = s.deviceLog := rfl
@[simp] theorem State.putJfZf_draws (s : State) (j z : Bool) :
    (s.putJfZf j z).draws = s.draws := rfl

@[simp] theorem State.drew_regs (s : State) (n : Nat) : (s.drew n).regs = s.regs := rfl
@[simp] theorem State.drew_pc (s : State) (n : Nat) : (s.drew n).pc = s.pc := rfl
@[simp] theorem State.drew_psw (s : State) (n : Nat) : (s.drew n).psw = s.psw := rfl
@[simp] theorem State.drew_mem (s : State) (n : Nat) : (s.drew n).mem = s.mem := rfl
@[simp] theorem State.drew_regions (s : State) (n : Nat) : (s.drew n).regions = s.regions := rfl
@[simp] theorem State.drew_haltAddress (s : State) (n : Nat) :
    (s.drew n).haltAddress = s.haltAddress := rfl
@[simp] theorem State.drew_launch (s : State) (n : Nat) : (s.drew n).launch = s.launch := rfl
@[simp] theorem State.drew_schedule (s : State) (n : Nat) : (s.drew n).schedule = s.schedule := rfl
@[simp] theorem State.drew_deviceLog (s : State) (n : Nat) :
    (s.drew n).deviceLog = s.deviceLog := rfl
@[simp] theorem State.drew_draws (s : State) (n : Nat) : (s.drew n).draws = s.draws + n := rfl

@[simp] theorem State.setByte_regs (s : State) (a : Word) (v : Byte) :
    (s.setByte a v).regs = s.regs := rfl
@[simp] theorem State.setByte_pc (s : State) (a : Word) (v : Byte) :
    (s.setByte a v).pc = s.pc := rfl
@[simp] theorem State.setByte_psw (s : State) (a : Word) (v : Byte) :
    (s.setByte a v).psw = s.psw := rfl
@[simp] theorem State.setByte_mem (s : State) (a : Word) (v : Byte) :
    (s.setByte a v).mem = s.mem.set a.toNat v := rfl
@[simp] theorem State.setByte_regions (s : State) (a : Word) (v : Byte) :
    (s.setByte a v).regions = s.regions := rfl
@[simp] theorem State.setByte_haltAddress (s : State) (a : Word) (v : Byte) :
    (s.setByte a v).haltAddress = s.haltAddress := rfl
@[simp] theorem State.setByte_launch (s : State) (a : Word) (v : Byte) :
    (s.setByte a v).launch = s.launch := rfl
@[simp] theorem State.setByte_schedule (s : State) (a : Word) (v : Byte) :
    (s.setByte a v).schedule = s.schedule := rfl
@[simp] theorem State.setByte_deviceLog (s : State) (a : Word) (v : Byte) :
    (s.setByte a v).deviceLog = s.deviceLog := rfl
@[simp] theorem State.setByte_draws (s : State) (a : Word) (v : Byte) :
    (s.setByte a v).draws = s.draws := rfl

@[simp] theorem State.logDevice_regs (s : State) (ev : DeviceEvent) :
    (s.logDevice ev).regs = s.regs := rfl
@[simp] theorem State.logDevice_pc (s : State) (ev : DeviceEvent) :
    (s.logDevice ev).pc = s.pc := rfl
@[simp] theorem State.logDevice_psw (s : State) (ev : DeviceEvent) :
    (s.logDevice ev).psw = s.psw := rfl
@[simp] theorem State.logDevice_mem (s : State) (ev : DeviceEvent) :
    (s.logDevice ev).mem = s.mem := rfl
@[simp] theorem State.logDevice_regions (s : State) (ev : DeviceEvent) :
    (s.logDevice ev).regions = s.regions := rfl
@[simp] theorem State.logDevice_haltAddress (s : State) (ev : DeviceEvent) :
    (s.logDevice ev).haltAddress = s.haltAddress := rfl
@[simp] theorem State.logDevice_launch (s : State) (ev : DeviceEvent) :
    (s.logDevice ev).launch = s.launch := rfl
@[simp] theorem State.logDevice_schedule (s : State) (ev : DeviceEvent) :
    (s.logDevice ev).schedule = s.schedule := rfl
@[simp] theorem State.logDevice_deviceLog (s : State) (ev : DeviceEvent) :
    (s.logDevice ev).deviceLog = ev :: s.deviceLog := rfl
@[simp] theorem State.logDevice_draws (s : State) (ev : DeviceEvent) :
    (s.logDevice ev).draws = s.draws := rfl

@[simp] theorem State.pastOffers_regs (s : State) : (s.pastOffers).regs = s.regs := rfl
@[simp] theorem State.pastOffers_pc (s : State) : (s.pastOffers).pc = s.pc := rfl
@[simp] theorem State.pastOffers_psw (s : State) : (s.pastOffers).psw = s.psw := rfl
@[simp] theorem State.pastOffers_mem (s : State) : (s.pastOffers).mem = s.mem := rfl
@[simp] theorem State.pastOffers_regions (s : State) : (s.pastOffers).regions = s.regions := rfl
@[simp] theorem State.pastOffers_haltAddress (s : State) :
    (s.pastOffers).haltAddress = s.haltAddress := rfl
@[simp] theorem State.pastOffers_launch (s : State) : (s.pastOffers).launch = s.launch := rfl
@[simp] theorem State.pastOffers_schedule (s : State) :
    (s.pastOffers).schedule = s.schedule.tail := rfl
@[simp] theorem State.pastOffers_deviceLog (s : State) :
    (s.pastOffers).deviceLog = s.deviceLog := rfl
@[simp] theorem State.pastOffers_draws (s : State) : (s.pastOffers).draws = s.draws := rfl

@[simp] theorem State.reloaded_regs (s : State) : (s.reloaded).regs = s.launch.regs := rfl
@[simp] theorem State.reloaded_pc (s : State) : (s.reloaded).pc = s.launch.pc := rfl
@[simp] theorem State.reloaded_psw (s : State) : (s.reloaded).psw = s.launch.psw := rfl
@[simp] theorem State.reloaded_mem (s : State) : (s.reloaded).mem = s.launch.mem := rfl
@[simp] theorem State.reloaded_regions (s : State) : (s.reloaded).regions = s.regions := rfl
@[simp] theorem State.reloaded_haltAddress (s : State) :
    (s.reloaded).haltAddress = s.haltAddress := rfl
@[simp] theorem State.reloaded_launch (s : State) : (s.reloaded).launch = s.launch := rfl
@[simp] theorem State.reloaded_schedule (s : State) : (s.reloaded).schedule = s.schedule := rfl
@[simp] theorem State.reloaded_deviceLog (s : State) : (s.reloaded).deviceLog = s.deviceLog := rfl
@[simp] theorem State.reloaded_draws (s : State) : (s.reloaded).draws = s.draws := rfl

/-! ## Reads after updates that leave what is read -/

@[simp] theorem State.put8_kindAt (s : State) (r : Reg8) (v : Byte) (q : Word) :
    (s.put8 r v).kindAt q = s.kindAt q := rfl
@[simp] theorem State.put16_kindAt (s : State) (rr : Reg16) (v : Word) (q : Word) :
    (s.put16 rr v).kindAt q = s.kindAt q := rfl
@[simp] theorem State.putSp_kindAt (s : State) (v : Word) (q : Word) :
    (s.putSp v).kindAt q = s.kindAt q := rfl
@[simp] theorem State.putPc_kindAt (s : State) (v : Word) (q : Word) :
    (s.putPc v).kindAt q = s.kindAt q := rfl
@[simp] theorem State.advance_kindAt (s : State) (len : Nat) (q : Word) :
    (s.advance len).kindAt q = s.kindAt q := rfl
@[simp] theorem State.putPsw_kindAt (s : State) (p : Psw) (q : Word) :
    (s.putPsw p).kindAt q = s.kindAt q := rfl
@[simp] theorem State.putJf_kindAt (s : State) (v : Bool) (q : Word) :
    (s.putJf v).kindAt q = s.kindAt q := rfl
@[simp] theorem State.putJfZf_kindAt (s : State) (j z : Bool) (q : Word) :
    (s.putJfZf j z).kindAt q = s.kindAt q := rfl
@[simp] theorem State.drew_kindAt (s : State) (n : Nat) (q : Word) :
    (s.drew n).kindAt q = s.kindAt q := rfl
@[simp] theorem State.setByte_kindAt (s : State) (a : Word) (v : Byte) (q : Word) :
    (s.setByte a v).kindAt q = s.kindAt q := rfl
@[simp] theorem State.logDevice_kindAt (s : State) (ev : DeviceEvent) (q : Word) :
    (s.logDevice ev).kindAt q = s.kindAt q := rfl
@[simp] theorem State.pastOffers_kindAt (s : State) (q : Word) :
    (s.pastOffers).kindAt q = s.kindAt q := rfl
@[simp] theorem State.reloaded_kindAt (s : State) (q : Word) :
    (s.reloaded).kindAt q = s.kindAt q := rfl

@[simp] theorem State.put8_byteAt (s : State) (r : Reg8) (v : Byte) (q : Word) :
    (s.put8 r v).byteAt q = s.byteAt q := rfl
@[simp] theorem State.put16_byteAt (s : State) (rr : Reg16) (v : Word) (q : Word) :
    (s.put16 rr v).byteAt q = s.byteAt q := rfl
@[simp] theorem State.putSp_byteAt (s : State) (v : Word) (q : Word) :
    (s.putSp v).byteAt q = s.byteAt q := rfl
@[simp] theorem State.putPc_byteAt (s : State) (v : Word) (q : Word) :
    (s.putPc v).byteAt q = s.byteAt q := rfl
@[simp] theorem State.advance_byteAt (s : State) (len : Nat) (q : Word) :
    (s.advance len).byteAt q = s.byteAt q := rfl
@[simp] theorem State.putPsw_byteAt (s : State) (p : Psw) (q : Word) :
    (s.putPsw p).byteAt q = s.byteAt q := rfl
@[simp] theorem State.putJf_byteAt (s : State) (v : Bool) (q : Word) :
    (s.putJf v).byteAt q = s.byteAt q := rfl
@[simp] theorem State.putJfZf_byteAt (s : State) (j z : Bool) (q : Word) :
    (s.putJfZf j z).byteAt q = s.byteAt q := rfl
@[simp] theorem State.drew_byteAt (s : State) (n : Nat) (q : Word) :
    (s.drew n).byteAt q = s.byteAt q := rfl
@[simp] theorem State.logDevice_byteAt (s : State) (ev : DeviceEvent) (q : Word) :
    (s.logDevice ev).byteAt q = s.byteAt q := rfl
@[simp] theorem State.pastOffers_byteAt (s : State) (q : Word) :
    (s.pastOffers).byteAt q = s.byteAt q := rfl

@[simp] theorem State.putPc_get8 (s : State) (v : Word) (q : Reg8) :
    (s.putPc v).get8 q = s.get8 q := rfl
@[simp] theorem State.advance_get8 (s : State) (len : Nat) (q : Reg8) :
    (s.advance len).get8 q = s.get8 q := rfl
@[simp] theorem State.putPsw_get8 (s : State) (p : Psw) (q : Reg8) :
    (s.putPsw p).get8 q = s.get8 q := rfl
@[simp] theorem State.putJf_get8 (s : State) (v : Bool) (q : Reg8) :
    (s.putJf v).get8 q = s.get8 q := rfl
@[simp] theorem State.putJfZf_get8 (s : State) (j z : Bool) (q : Reg8) :
    (s.putJfZf j z).get8 q = s.get8 q := rfl
@[simp] theorem State.drew_get8 (s : State) (n : Nat) (q : Reg8) :
    (s.drew n).get8 q = s.get8 q := rfl
@[simp] theorem State.setByte_get8 (s : State) (a : Word) (v : Byte) (q : Reg8) :
    (s.setByte a v).get8 q = s.get8 q := rfl
@[simp] theorem State.logDevice_get8 (s : State) (ev : DeviceEvent) (q : Reg8) :
    (s.logDevice ev).get8 q = s.get8 q := rfl
@[simp] theorem State.pastOffers_get8 (s : State) (q : Reg8) :
    (s.pastOffers).get8 q = s.get8 q := rfl

@[simp] theorem State.putPc_get16 (s : State) (v : Word) (q : Reg16) :
    (s.putPc v).get16 q = s.get16 q := rfl
@[simp] theorem State.advance_get16 (s : State) (len : Nat) (q : Reg16) :
    (s.advance len).get16 q = s.get16 q := rfl
@[simp] theorem State.putPsw_get16 (s : State) (p : Psw) (q : Reg16) :
    (s.putPsw p).get16 q = s.get16 q := rfl
@[simp] theorem State.putJf_get16 (s : State) (v : Bool) (q : Reg16) :
    (s.putJf v).get16 q = s.get16 q := rfl
@[simp] theorem State.putJfZf_get16 (s : State) (j z : Bool) (q : Reg16) :
    (s.putJfZf j z).get16 q = s.get16 q := rfl
@[simp] theorem State.drew_get16 (s : State) (n : Nat) (q : Reg16) :
    (s.drew n).get16 q = s.get16 q := rfl
@[simp] theorem State.setByte_get16 (s : State) (a : Word) (v : Byte) (q : Reg16) :
    (s.setByte a v).get16 q = s.get16 q := rfl
@[simp] theorem State.logDevice_get16 (s : State) (ev : DeviceEvent) (q : Reg16) :
    (s.logDevice ev).get16 q = s.get16 q := rfl
@[simp] theorem State.pastOffers_get16 (s : State) (q : Reg16) :
    (s.pastOffers).get16 q = s.get16 q := rfl

@[simp] theorem State.putPc_sp (s : State) (v : Word) : (s.putPc v).sp = s.sp := rfl
@[simp] theorem State.advance_sp (s : State) (len : Nat) : (s.advance len).sp = s.sp := rfl
@[simp] theorem State.putPsw_sp (s : State) (p : Psw) : (s.putPsw p).sp = s.sp := rfl
@[simp] theorem State.putJf_sp (s : State) (v : Bool) : (s.putJf v).sp = s.sp := rfl
@[simp] theorem State.putJfZf_sp (s : State) (j z : Bool) : (s.putJfZf j z).sp = s.sp := rfl
@[simp] theorem State.drew_sp (s : State) (n : Nat) : (s.drew n).sp = s.sp := rfl
@[simp] theorem State.setByte_sp (s : State) (a : Word) (v : Byte) :
    (s.setByte a v).sp = s.sp := rfl
@[simp] theorem State.logDevice_sp (s : State) (ev : DeviceEvent) :
    (s.logDevice ev).sp = s.sp := rfl
@[simp] theorem State.pastOffers_sp (s : State) : (s.pastOffers).sp = s.sp := rfl

@[simp] theorem State.sp_putSp (s : State) (v : Word) : (s.putSp v).sp = v := rfl
@[simp] theorem State.sp_put8 (s : State) (r : Reg8) (v : Byte) : (s.put8 r v).sp = s.sp := by
  cases r <;> rfl
@[simp] theorem State.get8_put8_same (s : State) (r : Reg8) (v : Byte) : (s.put8 r v).get8 r = v := by
  cases r <;> rfl
@[simp] theorem State.get8_putSp (s : State) (r : Reg8) (v : Word) : (s.putSp v).get8 r = s.get8 r := by
  cases r <;> rfl

/-! ## The state a memory operand form leaves -/

@[simp] theorem srcBegin_pc (m : Src) (s : State) : (srcBegin m s).pc = s.pc := by
  cases m <;> rfl
@[simp] theorem srcBegin_psw (m : Src) (s : State) : (srcBegin m s).psw = s.psw := by
  cases m <;> rfl
@[simp] theorem srcBegin_mem (m : Src) (s : State) : (srcBegin m s).mem = s.mem := by
  cases m <;> rfl
@[simp] theorem srcBegin_regions (m : Src) (s : State) : (srcBegin m s).regions = s.regions := by
  cases m <;> rfl
@[simp] theorem srcBegin_haltAddress (m : Src) (s : State) : (srcBegin m s).haltAddress = s.haltAddress := by
  cases m <;> rfl
@[simp] theorem srcBegin_launch (m : Src) (s : State) : (srcBegin m s).launch = s.launch := by
  cases m <;> rfl
@[simp] theorem srcBegin_schedule (m : Src) (s : State) : (srcBegin m s).schedule = s.schedule := by
  cases m <;> rfl
@[simp] theorem srcBegin_deviceLog (m : Src) (s : State) : (srcBegin m s).deviceLog = s.deviceLog := by
  cases m <;> rfl
@[simp] theorem srcBegin_draws (m : Src) (s : State) : (srcBegin m s).draws = s.draws := by
  cases m <;> rfl
@[simp] theorem srcBegin_kindAt (m : Src) (s : State) (q : Word) :
    (srcBegin m s).kindAt q = s.kindAt q := by
  cases m <;> rfl
@[simp] theorem srcBegin_byteAt (m : Src) (s : State) (q : Word) :
    (srcBegin m s).byteAt q = s.byteAt q := by
  cases m <;> rfl

@[simp] theorem dstEnd_pc (m : Dst) (s : State) : (dstEnd m s).pc = s.pc := by
  cases m <;> rfl
@[simp] theorem dstEnd_psw (m : Dst) (s : State) : (dstEnd m s).psw = s.psw := by
  cases m <;> rfl
@[simp] theorem dstEnd_mem (m : Dst) (s : State) : (dstEnd m s).mem = s.mem := by
  cases m <;> rfl
@[simp] theorem dstEnd_regions (m : Dst) (s : State) : (dstEnd m s).regions = s.regions := by
  cases m <;> rfl
@[simp] theorem dstEnd_haltAddress (m : Dst) (s : State) : (dstEnd m s).haltAddress = s.haltAddress := by
  cases m <;> rfl
@[simp] theorem dstEnd_launch (m : Dst) (s : State) : (dstEnd m s).launch = s.launch := by
  cases m <;> rfl
@[simp] theorem dstEnd_schedule (m : Dst) (s : State) : (dstEnd m s).schedule = s.schedule := by
  cases m <;> rfl
@[simp] theorem dstEnd_deviceLog (m : Dst) (s : State) : (dstEnd m s).deviceLog = s.deviceLog := by
  cases m <;> rfl
@[simp] theorem dstEnd_draws (m : Dst) (s : State) : (dstEnd m s).draws = s.draws := by
  cases m <;> rfl
@[simp] theorem dstEnd_kindAt (m : Dst) (s : State) (q : Word) :
    (dstEnd m s).kindAt q = s.kindAt q := by
  cases m <;> rfl
@[simp] theorem dstEnd_byteAt (m : Dst) (s : State) (q : Word) :
    (dstEnd m s).byteAt q = s.byteAt q := by
  cases m <;> rfl

/-! ## The register file -/

@[simp] theorem Regs.get8_put8_same (g : Regs) (r : Reg8) (v : Byte) : (g.put8 r v).get8 r = v := by
  cases r <;> rfl

theorem Regs.get8_put8_other (g : Regs) (r q : Reg8) (v : Byte) (h : q ≠ r) :
    (g.put8 r v).get8 q = g.get8 q := by
  cases r <;> cases q <;> first | rfl | exact absurd rfl h

@[simp] theorem Regs.put8_ix (g : Regs) (r : Reg8) (v : Byte) : (g.put8 r v).ix = g.ix := by
  cases r <;> rfl
@[simp] theorem Regs.put8_iy (g : Regs) (r : Reg8) (v : Byte) : (g.put8 r v).iy = g.iy := by
  cases r <;> rfl
@[simp] theorem Regs.put8_sp (g : Regs) (r : Reg8) (v : Byte) : (g.put8 r v).sp = g.sp := by
  cases r <;> rfl

/-- Two bytes put together and taken apart again (00_scope.md R11). -/
@[simp] theorem hiByte_mkWord (hi lo : Byte) : hiByte (mkWord hi lo) = hi := by
  simp only [hiByte, mkWord]
  ext i h
  simp only [BitVec.getElem_extractLsb', BitVec.getLsbD_append]
  simp [BitVec.getLsbD_eq_getElem h]
@[simp] theorem loByte_mkWord (hi lo : Byte) : loByte (mkWord hi lo) = lo := by
  simp only [loByte, mkWord]
  ext i h
  simp only [BitVec.getElem_extractLsb', BitVec.getLsbD_append]
  simp [h]
@[simp] theorem mkWord_hiByte_loByte (w : Word) : mkWord (hiByte w) (loByte w) = w := by
  simp only [mkWord, hiByte, loByte]
  exact BitVec.extractLsb'_append_extractLsb'_eq_extractLsb' (by rfl) |>.trans (by simp)

@[simp] theorem Regs.get16_put16_same (g : Regs) (rr : Reg16) (v : Word) :
    (g.put16 rr v).get16 rr = v := by
  cases rr <;> simp [Regs.get16, Regs.put16]

/-- Code 111 is HL again (10_state.md R22). -/
theorem Regs.get16_hl7 (g : Regs) : g.get16 .hl7 = g.get16 .hl := rfl

end Sys2Proof.Machine
end

