-- ==== Sys2Proof/Laws/Ops.lean ====
section
/-! SUPPORT. What each shared operation can do, said once: `Loaded` and `Stored` are the outcomes of
one byte's access, the `_next` lemmas take an operation that answers a next state apart, the `_fault`
lemmas one that stops, and the `_ram` lemmas compute it under the default regions. -/

namespace Sys2Proof.Machine

/-! ## One byte -/

/-- What a byte's load gives: the value, and the state after it (20_memory.md R59). -/
inductive Loaded (a : Word) (s : State) : Byte → State → Prop where
  | plain (h : s.kindAt a = .ram ∨ s.kindAt a = .rom) : Loaded a s (s.byteAt a) s
  | device (h : s.kindAt a = .device) :
      Loaded a s (s.deviceByte a) (s.logDevice (.read a (s.deviceByte a)))

/-- What a byte's store gives: the state after it (20_memory.md R59). -/
inductive Stored (a : Word) (v : Byte) (s : State) : State → Prop where
  | ram (h : s.kindAt a = .ram) : Stored a v s (s.setByte a v)
  | rom (h : s.kindAt a = .rom) : Stored a v s s
  | device (h : s.kindAt a = .device) : Stored a v s (s.logDevice (.write a v))

/-- A load that goes on. -/
theorem loadByte_next {a : Word} {s t : State} {k : Byte → State → Result}
    (h : loadByte a s k = .next t) : ∃ v s₁, Loaded a s v s₁ ∧ k v s₁ = .next t := by
  unfold loadByte at h
  split at h
  · exact ⟨_, _, .plain (.inl ‹_›), h⟩
  · exact ⟨_, _, .plain (.inr ‹_›), h⟩
  · exact ⟨_, _, .device ‹_›, h⟩
  · cases h

/-- A store that goes on. -/
theorem storeByte_next {a : Word} {v : Byte} {s t : State} {k : State → Result}
    (h : storeByte a v s k = .next t) : ∃ s₁, Stored a v s s₁ ∧ k s₁ = .next t := by
  unfold storeByte at h
  split at h
  · exact ⟨_, .ram ‹_›, h⟩
  · exact ⟨_, .rom ‹_›, h⟩
  · exact ⟨_, .device ‹_›, h⟩
  · cases h

/-- A load that stops, or what follows it stops. -/
theorem loadByte_fault {a : Word} {s : State} {k : Byte → State → Result} {f : Fault}
    (h : loadByte a s k = .fault f) :
    (s.kindAt a = .absent ∧ f = .absentMemory a) ∨ ∃ v s₁, Loaded a s v s₁ ∧ k v s₁ = .fault f := by
  unfold loadByte at h
  split at h
  · exact .inr ⟨_, _, .plain (.inl ‹_›), h⟩
  · exact .inr ⟨_, _, .plain (.inr ‹_›), h⟩
  · exact .inr ⟨_, _, .device ‹_›, h⟩
  · cases h; exact .inl ⟨‹_›, rfl⟩

/-- A store that stops, or what follows it stops. -/
theorem storeByte_fault {a : Word} {v : Byte} {s : State} {k : State → Result} {f : Fault}
    (h : storeByte a v s k = .fault f) :
    (s.kindAt a = .absent ∧ f = .absentMemory a) ∨ ∃ s₁, Stored a v s s₁ ∧ k s₁ = .fault f := by
  unfold storeByte at h
  split at h
  · exact .inr ⟨_, .ram ‹_›, h⟩
  · exact .inr ⟨_, .rom ‹_›, h⟩
  · exact .inr ⟨_, .device ‹_›, h⟩
  · cases h; exact .inl ⟨‹_›, rfl⟩

/-- A load is never refused; what follows it may be. -/
theorem loadByte_refused {a : Word} {s : State} {k : Byte → State → Result} {f : Refusal}
    (h : loadByte a s k = .refused f) : ∃ v s₁, Loaded a s v s₁ ∧ k v s₁ = .refused f := by
  unfold loadByte at h
  split at h
  · exact ⟨_, _, .plain (.inl ‹_›), h⟩
  · exact ⟨_, _, .plain (.inr ‹_›), h⟩
  · exact ⟨_, _, .device ‹_›, h⟩
  · cases h

/-- A store is never refused; what follows it may be. -/
theorem storeByte_refused {a : Word} {v : Byte} {s : State} {k : State → Result} {f : Refusal}
    (h : storeByte a v s k = .refused f) : ∃ s₁, Stored a v s s₁ ∧ k s₁ = .refused f := by
  unfold storeByte at h
  split at h
  · exact ⟨_, .ram ‹_›, h⟩
  · exact ⟨_, .rom ‹_›, h⟩
  · exact ⟨_, .device ‹_›, h⟩
  · cases h

/-- Where no address is absent, a load goes on. -/
theorem loadByte_goes {a : Word} {s : State} (h : s.kindAt a ≠ .absent)
    (k : Byte → State → Result) : ∃ v s₁, Loaded a s v s₁ ∧ loadByte a s k = k v s₁ := by
  unfold loadByte
  split
  · exact ⟨_, _, .plain (.inl ‹_›), rfl⟩
  · exact ⟨_, _, .plain (.inr ‹_›), rfl⟩
  · exact ⟨_, _, .device ‹_›, rfl⟩
  · exact absurd ‹_› h

/-- Where no address is absent, a store goes on. -/
theorem storeByte_goes {a : Word} {v : Byte} {s : State} (h : s.kindAt a ≠ .absent)
    (k : State → Result) : ∃ s₁, Stored a v s s₁ ∧ storeByte a v s k = k s₁ := by
  unfold storeByte
  split
  · exact ⟨_, .ram ‹_›, rfl⟩
  · exact ⟨_, .rom ‹_›, rfl⟩
  · exact ⟨_, .device ‹_›, rfl⟩
  · exact absurd ‹_› h

/-! ## What an access leaves -/

section Loaded
variable {a : Word} {s t : State} {v : Byte}

theorem Loaded.regs (h : Loaded a s v t) : t.regs = s.regs := by cases h <;> rfl
theorem Loaded.pc (h : Loaded a s v t) : t.pc = s.pc := by cases h <;> rfl
theorem Loaded.psw (h : Loaded a s v t) : t.psw = s.psw := by cases h <;> rfl
theorem Loaded.mem (h : Loaded a s v t) : t.mem = s.mem := by cases h <;> rfl
theorem Loaded.regions (h : Loaded a s v t) : t.regions = s.regions := by cases h <;> rfl
theorem Loaded.haltAddress (h : Loaded a s v t) : t.haltAddress = s.haltAddress := by cases h <;> rfl
theorem Loaded.launch (h : Loaded a s v t) : t.launch = s.launch := by cases h <;> rfl
theorem Loaded.schedule (h : Loaded a s v t) : t.schedule = s.schedule := by cases h <;> rfl
theorem Loaded.draws (h : Loaded a s v t) : t.draws = s.draws := by cases h <;> rfl
theorem Loaded.byteAt (h : Loaded a s v t) (b : Word) : t.byteAt b = s.byteAt b := by cases h <;> rfl
theorem Loaded.kindAt (h : Loaded a s v t) (b : Word) : t.kindAt b = s.kindAt b := by cases h <;> rfl
/-- The accesses made before stay recorded. -/
theorem Loaded.deviceLog (h : Loaded a s v t) : s.deviceLog <:+ t.deviceLog := by
  cases h
  · exact List.suffix_rfl
  · exact List.suffix_cons _ _

end Loaded

section Stored
variable {a : Word} {s t : State} {v : Byte}

theorem Stored.regs (h : Stored a v s t) : t.regs = s.regs := by cases h <;> rfl
theorem Stored.pc (h : Stored a v s t) : t.pc = s.pc := by cases h <;> rfl
theorem Stored.psw (h : Stored a v s t) : t.psw = s.psw := by cases h <;> rfl
theorem Stored.regions (h : Stored a v s t) : t.regions = s.regions := by cases h <;> rfl
theorem Stored.haltAddress (h : Stored a v s t) : t.haltAddress = s.haltAddress := by cases h <;> rfl
theorem Stored.launch (h : Stored a v s t) : t.launch = s.launch := by cases h <;> rfl
theorem Stored.schedule (h : Stored a v s t) : t.schedule = s.schedule := by cases h <;> rfl
theorem Stored.draws (h : Stored a v s t) : t.draws = s.draws := by cases h <;> rfl
theorem Stored.kindAt (h : Stored a v s t) (b : Word) : t.kindAt b = s.kindAt b := by cases h <;> rfl
/-- The accesses made before stay recorded. -/
theorem Stored.deviceLog (h : Stored a v s t) : s.deviceLog <:+ t.deviceLog := by
  cases h
  · exact List.suffix_rfl
  · exact List.suffix_rfl
  · exact List.suffix_cons _ _
/-- A store changes no byte but its own. -/
theorem Stored.byteAt (h : Stored a v s t) (b : Word) (hb : b ≠ a) : t.byteAt b = s.byteAt b := by
  cases h
  · exact State.byteAt_setByte_other _ _ _ _ hb
  · rfl
  · rfl
/-- A store keeps the canonical form. -/
theorem Stored.wf (h : Stored a v s t) (hw : Memory.wf s.mem = true) : Memory.wf t.mem = true := by
  cases h
  · exact Memory.wf_setByte a v hw
  · exact hw
  · exact hw

end Stored

/-! ## Words, the stack, IMF -/

theorem loadWord_next {a : Word} {s t : State} {k : Word → State → Result}
    (h : loadWord a s k = .next t) :
    ∃ lo hi s₁ s₂, Loaded a s lo s₁ ∧ Loaded (a + 1) s₁ hi s₂ ∧ k (mkWord hi lo) s₂ = .next t := by
  obtain ⟨lo, s₁, h₁, h⟩ := loadByte_next h
  obtain ⟨hi, s₂, h₂, h⟩ := loadByte_next h
  exact ⟨lo, hi, s₁, s₂, h₁, h₂, h⟩

theorem storeWord_next {a v : Word} {s t : State} {k : State → Result}
    (h : storeWord a v s k = .next t) :
    ∃ s₁ s₂, Stored a (loByte v) s s₁ ∧ Stored (a + 1) (hiByte v) s₁ s₂ ∧ k s₂ = .next t := by
  obtain ⟨s₁, h₁, h⟩ := storeByte_next h
  obtain ⟨s₂, h₂, h⟩ := storeByte_next h
  exact ⟨s₁, s₂, h₁, h₂, h⟩

theorem push16_next {v : Word} {s t : State} {k : State → Result} (h : push16 v s k = .next t) :
    ∃ s₁ s₂, Stored s.sp (hiByte v) s s₁ ∧ Stored (s₁.sp - 1) (loByte v) s₁ s₂
      ∧ k (s₂.putSp (s₂.sp - 2)) = .next t := by
  obtain ⟨s₁, h₁, h⟩ := storeByte_next h
  obtain ⟨s₂, h₂, h⟩ := storeByte_next h
  exact ⟨s₁, s₂, h₁, h₂, h⟩

theorem pop16_next {s t : State} {k : Word → State → Result} (h : pop16 s k = .next t) :
    ∃ lo hi s₁ s₂, Loaded (s.sp + 2 - 1) (s.putSp (s.sp + 2)) lo s₁ ∧ Loaded s₁.sp s₁ hi s₂
      ∧ k (mkWord hi lo) s₂ = .next t := by
  simp only [pop16, State.sp_putSp] at h
  obtain ⟨lo, s₁, h₁, h⟩ := loadByte_next h
  obtain ⟨hi, s₂, h₂, h⟩ := loadByte_next h
  exact ⟨lo, hi, s₁, s₂, h₁, h₂, h⟩

theorem loadImf_next {s t : State} {k : Bool → State → Result} (h : loadImf s k = .next t) :
    ∃ v s₁, Loaded imfAddress s v s₁ ∧ k (bitOf v 0) s₁ = .next t := loadByte_next h

theorem storeImf_next {c : Bool} {s t : State} {k : State → Result} (h : storeImf c s k = .next t) :
    ∃ v s₁ s₂, Loaded imfAddress s v s₁ ∧ Stored imfAddress (bitPut v 0 c) s₁ s₂
      ∧ k s₂ = .next t := by
  obtain ⟨v, s₁, h₁, h⟩ := loadByte_next h
  obtain ⟨s₂, h₂, h⟩ := storeByte_next h
  exact ⟨v, s₁, s₂, h₁, h₂, h⟩

/-- Entering a handler: the accesses it makes, in order (46 R443, 60_exceptions.md R462). -/
theorem enterHandler_next {ra vector : Word} {s t : State} (h : enterHandler ra vector s = .next t) :
    ∃ v s₁ s₂ s₃ s₄ w s₅ s₆ lo hi s₇ s₈, Loaded imfAddress s v s₁
      ∧ Stored s₁.sp (bitPut (pswImage s₁.psw (Config.pswLowBits s₁.draws)) 0 (bitOf v 0))
          (s₁.drew 1) s₂
      ∧ Stored (s₂.sp - 1) (hiByte ra) s₂ s₃ ∧ Stored (s₃.sp - 2) (loByte ra) s₃ s₄
      ∧ Loaded imfAddress (s₄.putSp (s₄.sp - 3)) w s₅ ∧ Stored imfAddress (bitPut w 0 false) s₅ s₆
      ∧ Loaded vector s₆ lo s₇ ∧ Loaded (vector + 1) s₇ hi s₈ ∧ t = s₈.putPc (mkWord hi lo) := by
  obtain ⟨v, s₁, h₁, h⟩ := loadImf_next h
  obtain ⟨s₂, h₂, h⟩ := storeByte_next h
  obtain ⟨s₃, h₃, h⟩ := storeByte_next h
  obtain ⟨s₄, h₄, h⟩ := storeByte_next h
  obtain ⟨w, s₅, s₆, h₅, h₆, h⟩ := storeImf_next h
  obtain ⟨lo, hi, s₇, s₈, h₇, h₈, h⟩ := loadWord_next h
  cases h
  exact ⟨v, s₁, s₂, s₃, s₄, w, s₅, s₆, lo, hi, s₇, s₈, h₁, h₂, h₃, h₄, h₅, h₆, h₇, h₈, rfl⟩

/-- Returning from a handler: the accesses it makes, in order (46 R441, R442). -/
theorem returnFromHandler_next {s t : State} (h : returnFromHandler s = .next t) :
    ∃ lo hi s₁ s₂ b s₃ w s₄ s₅, Loaded (s.sp + 1) s lo s₁ ∧ Loaded (s.sp + 1 + 1) s₁ hi s₂
      ∧ Loaded (s₂.sp + 3) s₂ b s₃
      ∧ Loaded imfAddress ((s₃.putPsw (pswOfByte b)).putSp (s₃.sp + 3)) w s₄
      ∧ Stored imfAddress (bitPut w 0 (bitOf b 0)) s₄ s₅ ∧ t = s₅.putPc (mkWord hi lo) := by
  obtain ⟨lo, hi, s₁, s₂, h₁, h₂, h⟩ := loadWord_next h
  obtain ⟨b, s₃, h₃, h⟩ := loadByte_next h
  obtain ⟨w, s₄, s₅, h₄, h₅, h⟩ := storeImf_next h
  cases h
  exact ⟨lo, hi, s₁, s₂, b, s₃, w, s₄, s₅, h₁, h₂, h₃, h₄, h₅, rfl⟩

/-! ## Memory operands -/

theorem withSrcByte_next {m : Src} {s t : State} {k : Byte → State → Result}
    (h : withSrcByte m s k = .next t) :
    ∃ v s₁, Loaded (srcAddr m s) (srcBegin m s) v s₁ ∧ k v s₁ = .next t := loadByte_next h

theorem withSrcWord_next {m : Src} {s t : State} {k : Word → State → Result}
    (h : withSrcWord m s k = .next t) :
    ∃ lo hi s₁ s₂, Loaded (srcAddr m s) (srcBegin m s) lo s₁ ∧ Loaded (srcAddr m s + 1) s₁ hi s₂
      ∧ k (mkWord hi lo) s₂ = .next t := loadWord_next h

theorem toDstByte_next {m : Dst} {v : Byte} {s t : State} {k : State → Result}
    (h : toDstByte m v s k = .next t) :
    ∃ s₁, Stored (dstAddr m s) v s s₁ ∧ k (dstEnd m s₁) = .next t := storeByte_next h

theorem toDstWord_next {m : Dst} {v : Word} {s t : State} {k : State → Result}
    (h : toDstWord m v s k = .next t) :
    ∃ s₁ s₂, Stored (dstAddr m s) (loByte v) s s₁ ∧ Stored (dstAddr m s + 1) (hiByte v) s₁ s₂
      ∧ k (dstEnd m s₂) = .next t := storeWord_next h

theorem updateSrcByte_next {m : Src} {f : Byte → Byte} {s t : State} {k : Byte → State → Result}
    (h : updateSrcByte m f s k = .next t) :
    ∃ v s₁ s₂, Loaded (srcAddr m s) (srcBegin m s) v s₁ ∧ Stored (srcAddr m s) (f v) s₁ s₂
      ∧ k v s₂ = .next t := by
  obtain ⟨v, s₁, h₁, h⟩ := loadByte_next h
  obtain ⟨s₂, h₂, h⟩ := storeByte_next h
  exact ⟨v, s₁, s₂, h₁, h₂, h⟩

theorem exchangeSrcWord_next {m : Src} {f : State → Word} {s t : State}
    {k : Word → State → Result} (h : exchangeSrcWord m f s k = .next t) :
    ∃ lo hi s₁ s₂ s₃ s₄, Loaded (srcAddr m s) (srcBegin m s) lo s₁
      ∧ Loaded (srcAddr m s + 1) s₁ hi s₂ ∧ Stored (srcAddr m s) (loByte (f s₂)) s₂ s₃
      ∧ Stored (srcAddr m s + 1) (hiByte (f s₂)) s₃ s₄ ∧ k (mkWord hi lo) s₄ = .next t := by
  obtain ⟨lo, hi, s₁, s₂, h₁, h₂, h⟩ := loadWord_next h
  obtain ⟨s₃, s₄, h₃, h₄, h⟩ := storeWord_next h
  exact ⟨lo, hi, s₁, s₂, s₃, s₄, h₁, h₂, h₃, h₄, h⟩

/-! ## Under the default regions -/

theorem loadByte_ram {a : Word} {s : State} (h : s.kindAt a = .ram) (k : Byte → State → Result) :
    loadByte a s k = k (s.byteAt a) s := by unfold loadByte; rw [h]

theorem storeByte_ram {a : Word} {s : State} (h : s.kindAt a = .ram) (v : Byte)
    (k : State → Result) : storeByte a v s k = k (s.setByte a v) := by unfold storeByte; rw [h]

theorem loadByte_device {a : Word} {s : State} (h : s.kindAt a = .device)
    (k : Byte → State → Result) :
    loadByte a s k = k (s.deviceByte a) (s.logDevice (.read a (s.deviceByte a))) := by
  unfold loadByte; rw [h]

theorem storeByte_device {a : Word} {s : State} (h : s.kindAt a = .device) (v : Byte)
    (k : State → Result) : storeByte a v s k = k (s.logDevice (.write a v)) := by
  unfold storeByte; rw [h]

theorem loadByte_absent {a : Word} {s : State} (h : s.kindAt a = .absent)
    (k : Byte → State → Result) : loadByte a s k = .fault (.absentMemory a) := by
  unfold loadByte; rw [h]

theorem storeByte_absent {a : Word} {s : State} (h : s.kindAt a = .absent) (v : Byte)
    (k : State → Result) : storeByte a v s k = .fault (.absentMemory a) := by
  unfold storeByte; rw [h]

theorem storeByte_rom {a : Word} {s : State} (h : s.kindAt a = .rom) (v : Byte)
    (k : State → Result) : storeByte a v s k = k s := by unfold storeByte; rw [h]

/-- What an accepted event does, and when none is (60_exceptions.md R461, R464). -/
theorem acceptEvent_none {s : State} (k : State → Result) : acceptEvent [] s k = k s := rfl

end Sys2Proof.Machine
end

