-- ==== Sys2Proof/Laws/Access.lean ====
section
/-! SUPPORT. What an access does under any regions: the equations of the memory operations where no
address they touch is `absent`, in the terms of Sys2Proof/Safety.lean. -/

namespace Sys2Proof.Machine

@[simp] theorem afterRead_kindAt (s : State) (a c : Word) : (s.afterRead a).kindAt c = s.kindAt c := by
  unfold State.afterRead; split <;> rfl

@[simp] theorem afterWrite_kindAt (s : State) (a c : Word) (v : Byte) :
    (s.afterWrite a v).kindAt c = s.kindAt c := by
  unfold State.afterWrite; split <;> [rfl; split <;> rfl]

@[simp] theorem afterRead_regs (s : State) (a : Word) : (s.afterRead a).regs = s.regs := by
  unfold State.afterRead; split <;> rfl

@[simp] theorem afterRead_pc (s : State) (a : Word) : (s.afterRead a).pc = s.pc := by
  unfold State.afterRead; split <;> rfl

@[simp] theorem afterRead_psw (s : State) (a : Word) : (s.afterRead a).psw = s.psw := by
  unfold State.afterRead; split <;> rfl

@[simp] theorem afterRead_mem (s : State) (a : Word) : (s.afterRead a).mem = s.mem := by
  unfold State.afterRead; split <;> rfl

@[simp] theorem afterWrite_regs (s : State) (a : Word) (v : Byte) :
    (s.afterWrite a v).regs = s.regs := by
  unfold State.afterWrite; split <;> [rfl; split <;> rfl]

@[simp] theorem afterWrite_pc (s : State) (a : Word) (v : Byte) : (s.afterWrite a v).pc = s.pc := by
  unfold State.afterWrite; split <;> [rfl; split <;> rfl]

@[simp] theorem afterWrite_psw (s : State) (a : Word) (v : Byte) : (s.afterWrite a v).psw = s.psw := by
  unfold State.afterWrite; split <;> [rfl; split <;> rfl]

/-- A load of an address that is not `absent` goes on with the byte read. -/
theorem loadByte_readAt {a : Word} {s : State} (h : s.kindAt a ≠ .absent)
    (k : Byte → State → Result) : loadByte a s k = k (s.readAt a) (s.afterRead a) := by
  unfold loadByte State.readAt State.afterRead
  cases hk : s.kindAt a <;> simp_all

/-- A store to an address that is not `absent` goes on with the byte written. -/
theorem storeByte_afterWrite {a : Word} {s : State} (h : s.kindAt a ≠ .absent) (v : Byte)
    (k : State → Result) : storeByte a v s k = k (s.afterWrite a v) := by
  unfold storeByte State.afterWrite
  cases hk : s.kindAt a <;> simp_all

/-- A word's load that touches no `absent` address. -/
theorem loadWord_readAt {a : Word} {s : State} (h : s.kindAt a ≠ .absent)
    (h' : s.kindAt (a + 1) ≠ .absent) (k : Word → State → Result) :
    loadWord a s k = k (s.wordReadAt a) (s.afterWordRead a) := by
  unfold loadWord
  rw [loadByte_readAt h, loadByte_readAt (by simpa using h')]
  rfl

/-- A word's store that touches no `absent` address. -/
theorem storeWord_afterWrite {a : Word} {s : State} (h : s.kindAt a ≠ .absent)
    (h' : s.kindAt (a + 1) ≠ .absent) (v : Word) (k : State → Result) :
    storeWord a v s k = k (s.afterWordWrite a v) := by
  unfold storeWord
  rw [storeByte_afterWrite h, storeByte_afterWrite (by simpa using h')]
  rfl

/-- A push that touches no `absent` address. -/
theorem push16_afterPush {s : State} (h : s.kindAt s.sp ≠ .absent)
    (h' : s.kindAt (s.sp - 1) ≠ .absent) (v : Word) (k : State → Result) :
    push16 v s k = k (s.afterPush v) := by
  have hs : (s.afterWrite s.sp (hiByte v)).sp = s.sp := by simp [State.sp]
  unfold push16
  rw [storeByte_afterWrite h, hs, storeByte_afterWrite (by simpa using h')]
  simp [State.afterPush, State.sp]

@[simp] theorem putSp_readAt (s : State) (v a : Word) : (s.putSp v).readAt a = s.readAt a := rfl

/-- A read and a move of SP commute. -/
theorem putSp_afterRead (s : State) (v a : Word) :
    (s.putSp v).afterRead a = (s.afterRead a).putSp v := by
  unfold State.afterRead
  by_cases h : s.kindAt a = .device
  · rw [if_pos h, if_pos (show (s.putSp v).kindAt a = .device from h)]; rfl
  · rw [if_neg h, if_neg (show ¬ (s.putSp v).kindAt a = .device from h)]

/-- A pop that touches no `absent` address. -/
theorem pop16_wordReadAt {s : State} (h : s.kindAt (s.sp + 1) ≠ .absent)
    (h' : s.kindAt (s.sp + 2) ≠ .absent) (k : Word → State → Result) :
    pop16 s k = k (s.wordReadAt (s.sp + 1)) ((s.afterWordRead (s.sp + 1)).putSp (s.sp + 2)) := by
  have h1 : s.sp + 2 - 1 = s.sp + 1 := by bv_omega
  have h2 : s.sp + 1 + 1 = s.sp + 2 := by bv_omega
  simp only [pop16, State.sp_putSp, h1]
  rw [loadByte_readAt (by simpa using h), putSp_afterRead, State.sp_putSp,
    loadByte_readAt (by simpa using h'), putSp_afterRead]
  simp only [State.wordReadAt, State.afterWordRead, h2, putSp_readAt]

end Sys2Proof.Machine
end

