-- ==== Sys2Proof/Laws/PerInstr.lean ====
section
/-! SUPPORT. The per-instruction family of LAWS.json: every instruction's encoding has one to five
bytes (30_encoding.md R101, R102). -/

namespace Sys2Proof.Laws

/-- A source prefix has one to three bytes (30_encoding.md R83). -/
theorem srcPrefix_length (m : Src) :
    1 ≤ (Encode.srcPrefix m).length ∧ (Encode.srcPrefix m).length ≤ 3 := by
  cases m <;> simp [Encode.srcPrefix]

/-- A destination prefix has one to three bytes (30_encoding.md R83). -/
theorem dstPrefix_length (m : Dst) :
    1 ≤ (Encode.dstPrefix m).length ∧ (Encode.dstPrefix m).length ≤ 3 := by
  cases m <;> simp [Encode.dstPrefix]

/-- The encoding of an instruction has one to five bytes. -/
def EncodedLength.Statement (i : Instr) : Prop :=
  1 ≤ (encode i).length ∧ (encode i).length ≤ 5

/-- Few bytes: enough for every instruction without a memory operand. -/
theorem EncodedLength.of_list {i : Instr} {bs : List Byte} (h : encode i = bs) (h1 : 1 ≤ bs.length)
    (h5 : bs.length ≤ 5) : EncodedLength.Statement i := by
  unfold EncodedLength.Statement; rw [h]; exact ⟨h1, h5⟩

/-- A source prefix and at most two bytes. -/
theorem EncodedLength.of_src {i : Instr} (m : Src) {bs : List Byte}
    (h : encode i = Encode.srcPrefix m ++ bs) (h2 : bs.length ≤ 2) : EncodedLength.Statement i := by
  have := srcPrefix_length m
  unfold EncodedLength.Statement; rw [h, List.length_append]; omega

/-- A destination prefix and at most two bytes. -/
theorem EncodedLength.of_dst {i : Instr} (m : Dst) {bs : List Byte}
    (h : encode i = Encode.dstPrefix m ++ bs) (h2 : bs.length ≤ 2) : EncodedLength.Statement i := by
  have := dstPrefix_length m
  unfold EncodedLength.Statement; rw [h, List.length_append]; omega

theorem EncodedLength.prefixReg (g : BitVec 3) (op : Byte) :
    EncodedLength.Statement (.prefixReg g op) :=
  of_list rfl (Nat.le_of_ble_eq_true rfl) (Nat.le_of_ble_eq_true rfl)
theorem EncodedLength.prefixSrcX (x : Byte) (op : Byte) :
    EncodedLength.Statement (.prefixSrcX x op) :=
  of_list rfl (Nat.le_of_ble_eq_true rfl) (Nat.le_of_ble_eq_true rfl)
theorem EncodedLength.prefixSrcVw (vw : Word) (op : Byte) :
    EncodedLength.Statement (.prefixSrcVw vw op) :=
  of_list rfl (Nat.le_of_ble_eq_true rfl) (Nat.le_of_ble_eq_true rfl)
theorem EncodedLength.prefixSrcDe (op : Byte) : EncodedLength.Statement (.prefixSrcDe op) :=
  of_list rfl (Nat.le_of_ble_eq_true rfl) (Nat.le_of_ble_eq_true rfl)
theorem EncodedLength.prefixSrcHl (op : Byte) : EncodedLength.Statement (.prefixSrcHl op) :=
  of_list rfl (Nat.le_of_ble_eq_true rfl) (Nat.le_of_ble_eq_true rfl)
theorem EncodedLength.prefixSrcIx (op : Byte) : EncodedLength.Statement (.prefixSrcIx op) :=
  of_list rfl (Nat.le_of_ble_eq_true rfl) (Nat.le_of_ble_eq_true rfl)
theorem EncodedLength.prefixSrcIy (op : Byte) : EncodedLength.Statement (.prefixSrcIy op) :=
  of_list rfl (Nat.le_of_ble_eq_true rfl) (Nat.le_of_ble_eq_true rfl)
theorem EncodedLength.prefixSrcIncSp (op : Byte) : EncodedLength.Statement (.prefixSrcIncSp op) :=
  of_list rfl (Nat.le_of_ble_eq_true rfl) (Nat.le_of_ble_eq_true rfl)
theorem EncodedLength.prefixSrcHlC (op : Byte) : EncodedLength.Statement (.prefixSrcHlC op) :=
  of_list rfl (Nat.le_of_ble_eq_true rfl) (Nat.le_of_ble_eq_true rfl)
theorem EncodedLength.prefixSrcIxD (d : Byte) (op : Byte) :
    EncodedLength.Statement (.prefixSrcIxD d op) :=
  of_list rfl (Nat.le_of_ble_eq_true rfl) (Nat.le_of_ble_eq_true rfl)
theorem EncodedLength.prefixSrcIyD (d : Byte) (op : Byte) :
    EncodedLength.Statement (.prefixSrcIyD d op) :=
  of_list rfl (Nat.le_of_ble_eq_true rfl) (Nat.le_of_ble_eq_true rfl)
theorem EncodedLength.prefixSrcSpD (d : Byte) (op : Byte) :
    EncodedLength.Statement (.prefixSrcSpD d op) :=
  of_list rfl (Nat.le_of_ble_eq_true rfl) (Nat.le_of_ble_eq_true rfl)
theorem EncodedLength.prefixSrcHlD (d : Byte) (op : Byte) :
    EncodedLength.Statement (.prefixSrcHlD d op) :=
  of_list rfl (Nat.le_of_ble_eq_true rfl) (Nat.le_of_ble_eq_true rfl)
theorem EncodedLength.prefixSrcPcA (op : Byte) : EncodedLength.Statement (.prefixSrcPcA op) :=
  of_list rfl (Nat.le_of_ble_eq_true rfl) (Nat.le_of_ble_eq_true rfl)
theorem EncodedLength.prefixDstX (x : Byte) (op : Byte) :
    EncodedLength.Statement (.prefixDstX x op) :=
  of_list rfl (Nat.le_of_ble_eq_true rfl) (Nat.le_of_ble_eq_true rfl)
theorem EncodedLength.prefixDstVw (vw : Word) (op : Byte) :
    EncodedLength.Statement (.prefixDstVw vw op) :=
  of_list rfl (Nat.le_of_ble_eq_true rfl) (Nat.le_of_ble_eq_true rfl)
theorem EncodedLength.prefixDstDe (op : Byte) : EncodedLength.Statement (.prefixDstDe op) :=
  of_list rfl (Nat.le_of_ble_eq_true rfl) (Nat.le_of_ble_eq_true rfl)
theorem EncodedLength.prefixDstHl (op : Byte) : EncodedLength.Statement (.prefixDstHl op) :=
  of_list rfl (Nat.le_of_ble_eq_true rfl) (Nat.le_of_ble_eq_true rfl)
theorem EncodedLength.prefixDstIx (op : Byte) : EncodedLength.Statement (.prefixDstIx op) :=
  of_list rfl (Nat.le_of_ble_eq_true rfl) (Nat.le_of_ble_eq_true rfl)
theorem EncodedLength.prefixDstIy (op : Byte) : EncodedLength.Statement (.prefixDstIy op) :=
  of_list rfl (Nat.le_of_ble_eq_true rfl) (Nat.le_of_ble_eq_true rfl)
theorem EncodedLength.prefixDstSpDec (op : Byte) : EncodedLength.Statement (.prefixDstSpDec op) :=
  of_list rfl (Nat.le_of_ble_eq_true rfl) (Nat.le_of_ble_eq_true rfl)
theorem EncodedLength.prefixDstHlC (op : Byte) : EncodedLength.Statement (.prefixDstHlC op) :=
  of_list rfl (Nat.le_of_ble_eq_true rfl) (Nat.le_of_ble_eq_true rfl)
theorem EncodedLength.prefixDstIxD (d : Byte) (op : Byte) :
    EncodedLength.Statement (.prefixDstIxD d op) :=
  of_list rfl (Nat.le_of_ble_eq_true rfl) (Nat.le_of_ble_eq_true rfl)
theorem EncodedLength.prefixDstIyD (d : Byte) (op : Byte) :
    EncodedLength.Statement (.prefixDstIyD d op) :=
  of_list rfl (Nat.le_of_ble_eq_true rfl) (Nat.le_of_ble_eq_true rfl)
theorem EncodedLength.prefixDstSpD (d : Byte) (op : Byte) :
    EncodedLength.Statement (.prefixDstSpD d op) :=
  of_list rfl (Nat.le_of_ble_eq_true rfl) (Nat.le_of_ble_eq_true rfl)
theorem EncodedLength.prefixDstHlD (d : Byte) (op : Byte) :
    EncodedLength.Statement (.prefixDstHlD d op) :=
  of_list rfl (Nat.le_of_ble_eq_true rfl) (Nat.le_of_ble_eq_true rfl)
theorem EncodedLength.nop : EncodedLength.Statement .nop :=
  of_list rfl (Nat.le_of_ble_eq_true rfl) (Nat.le_of_ble_eq_true rfl)
theorem EncodedLength.clrCf : EncodedLength.Statement .clrCf :=
  of_list rfl (Nat.le_of_ble_eq_true rfl) (Nat.le_of_ble_eq_true rfl)
theorem EncodedLength.setCf : EncodedLength.Statement .setCf :=
  of_list rfl (Nat.le_of_ble_eq_true rfl) (Nat.le_of_ble_eq_true rfl)
theorem EncodedLength.cplCf : EncodedLength.Statement .cplCf :=
  of_list rfl (Nat.le_of_ble_eq_true rfl) (Nat.le_of_ble_eq_true rfl)
theorem EncodedLength.cmpXN (x : Byte) (n : Byte) : EncodedLength.Statement (.cmpXN x n) :=
  of_list rfl (Nat.le_of_ble_eq_true rfl) (Nat.le_of_ble_eq_true rfl)
theorem EncodedLength.ldwXMn (x : Byte) (mn : Word) : EncodedLength.Statement (.ldwXMn x mn) :=
  of_list rfl (Nat.le_of_ble_eq_true rfl) (Nat.le_of_ble_eq_true rfl)
theorem EncodedLength.ldwHlMn (mn : Word) : EncodedLength.Statement (.ldwHlMn mn) :=
  of_list rfl (Nat.le_of_ble_eq_true rfl) (Nat.le_of_ble_eq_true rfl)
theorem EncodedLength.ldXN (x : Byte) (n : Byte) : EncodedLength.Statement (.ldXN x n) :=
  of_list rfl (Nat.le_of_ble_eq_true rfl) (Nat.le_of_ble_eq_true rfl)
theorem EncodedLength.ldHlN (n : Byte) : EncodedLength.Statement (.ldHlN n) :=
  of_list rfl (Nat.le_of_ble_eq_true rfl) (Nat.le_of_ble_eq_true rfl)
theorem EncodedLength.ldAX (x : Byte) : EncodedLength.Statement (.ldAX x) :=
  of_list rfl (Nat.le_of_ble_eq_true rfl) (Nat.le_of_ble_eq_true rfl)
theorem EncodedLength.ldAHl : EncodedLength.Statement .ldAHl :=
  of_list rfl (Nat.le_of_ble_eq_true rfl) (Nat.le_of_ble_eq_true rfl)
theorem EncodedLength.ldXA (x : Byte) : EncodedLength.Statement (.ldXA x) :=
  of_list rfl (Nat.le_of_ble_eq_true rfl) (Nat.le_of_ble_eq_true rfl)
theorem EncodedLength.ldHlA : EncodedLength.Statement .ldHlA :=
  of_list rfl (Nat.le_of_ble_eq_true rfl) (Nat.le_of_ble_eq_true rfl)
theorem EncodedLength.ldAR (r : Reg8) : EncodedLength.Statement (.ldAR r) :=
  of_list rfl (Nat.le_of_ble_eq_true rfl) (Nat.le_of_ble_eq_true rfl)
theorem EncodedLength.ldRN (r : Reg8) (n : Byte) : EncodedLength.Statement (.ldRN r n) :=
  of_list rfl (Nat.le_of_ble_eq_true rfl) (Nat.le_of_ble_eq_true rfl)
theorem EncodedLength.incR (r : Reg8) : EncodedLength.Statement (.incR r) :=
  of_list rfl (Nat.le_of_ble_eq_true rfl) (Nat.le_of_ble_eq_true rfl)
theorem EncodedLength.decR (r : Reg8) : EncodedLength.Statement (.decR r) :=
  of_list rfl (Nat.le_of_ble_eq_true rfl) (Nat.le_of_ble_eq_true rfl)
theorem EncodedLength.incRr (rr : Reg16) : EncodedLength.Statement (.incRr rr) :=
  of_list rfl (Nat.le_of_ble_eq_true rfl) (Nat.le_of_ble_eq_true rfl)
theorem EncodedLength.decRr (rr : Reg16) : EncodedLength.Statement (.decRr rr) :=
  of_list rfl (Nat.le_of_ble_eq_true rfl) (Nat.le_of_ble_eq_true rfl)
theorem EncodedLength.ldSpPlusD (d : Byte) : EncodedLength.Statement (.ldSpPlusD d) :=
  of_list rfl (Nat.le_of_ble_eq_true rfl) (Nat.le_of_ble_eq_true rfl)
theorem EncodedLength.ldSpMinusD (d : Byte) : EncodedLength.Statement (.ldSpMinusD d) :=
  of_list rfl (Nat.le_of_ble_eq_true rfl) (Nat.le_of_ble_eq_true rfl)
theorem EncodedLength.ldRA (r : Reg8) : EncodedLength.Statement (.ldRA r) :=
  of_list rfl (Nat.le_of_ble_eq_true rfl) (Nat.le_of_ble_eq_true rfl)
theorem EncodedLength.ldRrMn (rr : Reg16) (mn : Word) : EncodedLength.Statement (.ldRrMn rr mn) :=
  of_list rfl (Nat.le_of_ble_eq_true rfl) (Nat.le_of_ble_eq_true rfl)
theorem EncodedLength.pushRr (p : Pair) : EncodedLength.Statement (.pushRr p) :=
  of_list rfl (Nat.le_of_ble_eq_true rfl) (Nat.le_of_ble_eq_true rfl)
theorem EncodedLength.ldCfXB (b : BitVec 3) (x : Byte) : EncodedLength.Statement (.ldCfXB b x) :=
  of_list rfl (Nat.le_of_ble_eq_true rfl) (Nat.le_of_ble_eq_true rfl)
theorem EncodedLength.addcAN (n : Byte) : EncodedLength.Statement (.addcAN n) :=
  of_list rfl (Nat.le_of_ble_eq_true rfl) (Nat.le_of_ble_eq_true rfl)
theorem EncodedLength.addcRG (r : Reg8) (g : Reg8) : EncodedLength.Statement (.addcRG r g) :=
  of_list rfl (Nat.le_of_ble_eq_true rfl) (Nat.le_of_ble_eq_true rfl)
theorem EncodedLength.addcGN (g : Reg8) (n : Byte) : EncodedLength.Statement (.addcGN g n) :=
  of_list rfl (Nat.le_of_ble_eq_true rfl) (Nat.le_of_ble_eq_true rfl)
theorem EncodedLength.addcGgMn (gg : Reg16) (mn : Word) :
    EncodedLength.Statement (.addcGgMn gg mn) :=
  of_list rfl (Nat.le_of_ble_eq_true rfl) (Nat.le_of_ble_eq_true rfl)
theorem EncodedLength.addcRrGg (rr : Reg16) (gg : Reg16) :
    EncodedLength.Statement (.addcRrGg rr gg) :=
  of_list rfl (Nat.le_of_ble_eq_true rfl) (Nat.le_of_ble_eq_true rfl)
theorem EncodedLength.addcRSrc (r : Reg8) (m : Src) : EncodedLength.Statement (.addcRSrc r m) :=
  of_src m rfl (Nat.le_of_ble_eq_true rfl)
theorem EncodedLength.addcSrcN (m : Src) (n : Byte) : EncodedLength.Statement (.addcSrcN m n) :=
  of_src m rfl (Nat.le_of_ble_eq_true rfl)
theorem EncodedLength.addcRrSrc (rr : Reg16) (m : Src) :
    EncodedLength.Statement (.addcRrSrc rr m) :=
  of_src m rfl (Nat.le_of_ble_eq_true rfl)
theorem EncodedLength.addAN (n : Byte) : EncodedLength.Statement (.addAN n) :=
  of_list rfl (Nat.le_of_ble_eq_true rfl) (Nat.le_of_ble_eq_true rfl)
theorem EncodedLength.addRG (r : Reg8) (g : Reg8) : EncodedLength.Statement (.addRG r g) :=
  of_list rfl (Nat.le_of_ble_eq_true rfl) (Nat.le_of_ble_eq_true rfl)
theorem EncodedLength.addGN (g : Reg8) (n : Byte) : EncodedLength.Statement (.addGN g n) :=
  of_list rfl (Nat.le_of_ble_eq_true rfl) (Nat.le_of_ble_eq_true rfl)
theorem EncodedLength.addGgMn (gg : Reg16) (mn : Word) : EncodedLength.Statement (.addGgMn gg mn) :=
  of_list rfl (Nat.le_of_ble_eq_true rfl) (Nat.le_of_ble_eq_true rfl)
theorem EncodedLength.addRrGg (rr : Reg16) (gg : Reg16) :
    EncodedLength.Statement (.addRrGg rr gg) :=
  of_list rfl (Nat.le_of_ble_eq_true rfl) (Nat.le_of_ble_eq_true rfl)
theorem EncodedLength.addRSrc (r : Reg8) (m : Src) : EncodedLength.Statement (.addRSrc r m) :=
  of_src m rfl (Nat.le_of_ble_eq_true rfl)
theorem EncodedLength.addSrcN (m : Src) (n : Byte) : EncodedLength.Statement (.addSrcN m n) :=
  of_src m rfl (Nat.le_of_ble_eq_true rfl)
theorem EncodedLength.addRrSrc (rr : Reg16) (m : Src) : EncodedLength.Statement (.addRrSrc rr m) :=
  of_src m rfl (Nat.le_of_ble_eq_true rfl)
theorem EncodedLength.subbAN (n : Byte) : EncodedLength.Statement (.subbAN n) :=
  of_list rfl (Nat.le_of_ble_eq_true rfl) (Nat.le_of_ble_eq_true rfl)
theorem EncodedLength.subbRG (r : Reg8) (g : Reg8) : EncodedLength.Statement (.subbRG r g) :=
  of_list rfl (Nat.le_of_ble_eq_true rfl) (Nat.le_of_ble_eq_true rfl)
theorem EncodedLength.subbGN (g : Reg8) (n : Byte) : EncodedLength.Statement (.subbGN g n) :=
  of_list rfl (Nat.le_of_ble_eq_true rfl) (Nat.le_of_ble_eq_true rfl)
theorem EncodedLength.subbGgMn (gg : Reg16) (mn : Word) :
    EncodedLength.Statement (.subbGgMn gg mn) :=
  of_list rfl (Nat.le_of_ble_eq_true rfl) (Nat.le_of_ble_eq_true rfl)
theorem EncodedLength.subbRrGg (rr : Reg16) (gg : Reg16) :
    EncodedLength.Statement (.subbRrGg rr gg) :=
  of_list rfl (Nat.le_of_ble_eq_true rfl) (Nat.le_of_ble_eq_true rfl)
theorem EncodedLength.subbRSrc (r : Reg8) (m : Src) : EncodedLength.Statement (.subbRSrc r m) :=
  of_src m rfl (Nat.le_of_ble_eq_true rfl)
theorem EncodedLength.subbSrcN (m : Src) (n : Byte) : EncodedLength.Statement (.subbSrcN m n) :=
  of_src m rfl (Nat.le_of_ble_eq_true rfl)
theorem EncodedLength.subbRrSrc (rr : Reg16) (m : Src) :
    EncodedLength.Statement (.subbRrSrc rr m) :=
  of_src m rfl (Nat.le_of_ble_eq_true rfl)
theorem EncodedLength.subAN (n : Byte) : EncodedLength.Statement (.subAN n) :=
  of_list rfl (Nat.le_of_ble_eq_true rfl) (Nat.le_of_ble_eq_true rfl)
theorem EncodedLength.subRG (r : Reg8) (g : Reg8) : EncodedLength.Statement (.subRG r g) :=
  of_list rfl (Nat.le_of_ble_eq_true rfl) (Nat.le_of_ble_eq_true rfl)
theorem EncodedLength.subGN (g : Reg8) (n : Byte) : EncodedLength.Statement (.subGN g n) :=
  of_list rfl (Nat.le_of_ble_eq_true rfl) (Nat.le_of_ble_eq_true rfl)
theorem EncodedLength.subGgMn (gg : Reg16) (mn : Word) : EncodedLength.Statement (.subGgMn gg mn) :=
  of_list rfl (Nat.le_of_ble_eq_true rfl) (Nat.le_of_ble_eq_true rfl)
theorem EncodedLength.subRrGg (rr : Reg16) (gg : Reg16) :
    EncodedLength.Statement (.subRrGg rr gg) :=
  of_list rfl (Nat.le_of_ble_eq_true rfl) (Nat.le_of_ble_eq_true rfl)
theorem EncodedLength.subRSrc (r : Reg8) (m : Src) : EncodedLength.Statement (.subRSrc r m) :=
  of_src m rfl (Nat.le_of_ble_eq_true rfl)
theorem EncodedLength.subSrcN (m : Src) (n : Byte) : EncodedLength.Statement (.subSrcN m n) :=
  of_src m rfl (Nat.le_of_ble_eq_true rfl)
theorem EncodedLength.subRrSrc (rr : Reg16) (m : Src) : EncodedLength.Statement (.subRrSrc rr m) :=
  of_src m rfl (Nat.le_of_ble_eq_true rfl)
theorem EncodedLength.andAN (n : Byte) : EncodedLength.Statement (.andAN n) :=
  of_list rfl (Nat.le_of_ble_eq_true rfl) (Nat.le_of_ble_eq_true rfl)
theorem EncodedLength.andRG (r : Reg8) (g : Reg8) : EncodedLength.Statement (.andRG r g) :=
  of_list rfl (Nat.le_of_ble_eq_true rfl) (Nat.le_of_ble_eq_true rfl)
theorem EncodedLength.andGN (g : Reg8) (n : Byte) : EncodedLength.Statement (.andGN g n) :=
  of_list rfl (Nat.le_of_ble_eq_true rfl) (Nat.le_of_ble_eq_true rfl)
theorem EncodedLength.andGgMn (gg : Reg16) (mn : Word) : EncodedLength.Statement (.andGgMn gg mn) :=
  of_list rfl (Nat.le_of_ble_eq_true rfl) (Nat.le_of_ble_eq_true rfl)
theorem EncodedLength.andRrGg (rr : Reg16) (gg : Reg16) :
    EncodedLength.Statement (.andRrGg rr gg) :=
  of_list rfl (Nat.le_of_ble_eq_true rfl) (Nat.le_of_ble_eq_true rfl)
theorem EncodedLength.andRSrc (r : Reg8) (m : Src) : EncodedLength.Statement (.andRSrc r m) :=
  of_src m rfl (Nat.le_of_ble_eq_true rfl)
theorem EncodedLength.andSrcN (m : Src) (n : Byte) : EncodedLength.Statement (.andSrcN m n) :=
  of_src m rfl (Nat.le_of_ble_eq_true rfl)
theorem EncodedLength.andRrSrc (rr : Reg16) (m : Src) : EncodedLength.Statement (.andRrSrc rr m) :=
  of_src m rfl (Nat.le_of_ble_eq_true rfl)
theorem EncodedLength.xorAN (n : Byte) : EncodedLength.Statement (.xorAN n) :=
  of_list rfl (Nat.le_of_ble_eq_true rfl) (Nat.le_of_ble_eq_true rfl)
theorem EncodedLength.xorRG (r : Reg8) (g : Reg8) : EncodedLength.Statement (.xorRG r g) :=
  of_list rfl (Nat.le_of_ble_eq_true rfl) (Nat.le_of_ble_eq_true rfl)
theorem EncodedLength.xorGN (g : Reg8) (n : Byte) : EncodedLength.Statement (.xorGN g n) :=
  of_list rfl (Nat.le_of_ble_eq_true rfl) (Nat.le_of_ble_eq_true rfl)
theorem EncodedLength.xorGgMn (gg : Reg16) (mn : Word) : EncodedLength.Statement (.xorGgMn gg mn) :=
  of_list rfl (Nat.le_of_ble_eq_true rfl) (Nat.le_of_ble_eq_true rfl)
theorem EncodedLength.xorRrGg (rr : Reg16) (gg : Reg16) :
    EncodedLength.Statement (.xorRrGg rr gg) :=
  of_list rfl (Nat.le_of_ble_eq_true rfl) (Nat.le_of_ble_eq_true rfl)
theorem EncodedLength.xorRSrc (r : Reg8) (m : Src) : EncodedLength.Statement (.xorRSrc r m) :=
  of_src m rfl (Nat.le_of_ble_eq_true rfl)
theorem EncodedLength.xorSrcN (m : Src) (n : Byte) : EncodedLength.Statement (.xorSrcN m n) :=
  of_src m rfl (Nat.le_of_ble_eq_true rfl)
theorem EncodedLength.xorRrSrc (rr : Reg16) (m : Src) : EncodedLength.Statement (.xorRrSrc rr m) :=
  of_src m rfl (Nat.le_of_ble_eq_true rfl)
theorem EncodedLength.orAN (n : Byte) : EncodedLength.Statement (.orAN n) :=
  of_list rfl (Nat.le_of_ble_eq_true rfl) (Nat.le_of_ble_eq_true rfl)
theorem EncodedLength.orRG (r : Reg8) (g : Reg8) : EncodedLength.Statement (.orRG r g) :=
  of_list rfl (Nat.le_of_ble_eq_true rfl) (Nat.le_of_ble_eq_true rfl)
theorem EncodedLength.orGN (g : Reg8) (n : Byte) : EncodedLength.Statement (.orGN g n) :=
  of_list rfl (Nat.le_of_ble_eq_true rfl) (Nat.le_of_ble_eq_true rfl)
theorem EncodedLength.orGgMn (gg : Reg16) (mn : Word) : EncodedLength.Statement (.orGgMn gg mn) :=
  of_list rfl (Nat.le_of_ble_eq_true rfl) (Nat.le_of_ble_eq_true rfl)
theorem EncodedLength.orRrGg (rr : Reg16) (gg : Reg16) : EncodedLength.Statement (.orRrGg rr gg) :=
  of_list rfl (Nat.le_of_ble_eq_true rfl) (Nat.le_of_ble_eq_true rfl)
theorem EncodedLength.orRSrc (r : Reg8) (m : Src) : EncodedLength.Statement (.orRSrc r m) :=
  of_src m rfl (Nat.le_of_ble_eq_true rfl)
theorem EncodedLength.orSrcN (m : Src) (n : Byte) : EncodedLength.Statement (.orSrcN m n) :=
  of_src m rfl (Nat.le_of_ble_eq_true rfl)
theorem EncodedLength.orRrSrc (rr : Reg16) (m : Src) : EncodedLength.Statement (.orRrSrc rr m) :=
  of_src m rfl (Nat.le_of_ble_eq_true rfl)
theorem EncodedLength.cmpAN (n : Byte) : EncodedLength.Statement (.cmpAN n) :=
  of_list rfl (Nat.le_of_ble_eq_true rfl) (Nat.le_of_ble_eq_true rfl)
theorem EncodedLength.cmpRG (r : Reg8) (g : Reg8) : EncodedLength.Statement (.cmpRG r g) :=
  of_list rfl (Nat.le_of_ble_eq_true rfl) (Nat.le_of_ble_eq_true rfl)
theorem EncodedLength.cmpGN (g : Reg8) (n : Byte) : EncodedLength.Statement (.cmpGN g n) :=
  of_list rfl (Nat.le_of_ble_eq_true rfl) (Nat.le_of_ble_eq_true rfl)
theorem EncodedLength.cmpGgMn (gg : Reg16) (mn : Word) : EncodedLength.Statement (.cmpGgMn gg mn) :=
  of_list rfl (Nat.le_of_ble_eq_true rfl) (Nat.le_of_ble_eq_true rfl)
theorem EncodedLength.cmpRrGg (rr : Reg16) (gg : Reg16) :
    EncodedLength.Statement (.cmpRrGg rr gg) :=
  of_list rfl (Nat.le_of_ble_eq_true rfl) (Nat.le_of_ble_eq_true rfl)
theorem EncodedLength.cmpRSrc (r : Reg8) (m : Src) : EncodedLength.Statement (.cmpRSrc r m) :=
  of_src m rfl (Nat.le_of_ble_eq_true rfl)
theorem EncodedLength.cmpSrcN (m : Src) (n : Byte) : EncodedLength.Statement (.cmpSrcN m n) :=
  of_src m rfl (Nat.le_of_ble_eq_true rfl)
theorem EncodedLength.cmpRrSrc (rr : Reg16) (m : Src) : EncodedLength.Statement (.cmpRrSrc rr m) :=
  of_src m rfl (Nat.le_of_ble_eq_true rfl)
theorem EncodedLength.callv (n : BitVec 4) : EncodedLength.Statement (.callv n) :=
  of_list rfl (Nat.le_of_ble_eq_true rfl) (Nat.le_of_ble_eq_true rfl)
theorem EncodedLength.jrsT (d : BitVec 5) : EncodedLength.Statement (.jrsT d) :=
  of_list rfl (Nat.le_of_ble_eq_true rfl) (Nat.le_of_ble_eq_true rfl)
theorem EncodedLength.jrsF (d : BitVec 5) : EncodedLength.Statement (.jrsF d) :=
  of_list rfl (Nat.le_of_ble_eq_true rfl) (Nat.le_of_ble_eq_true rfl)
theorem EncodedLength.setXB (b : BitVec 3) (x : Byte) : EncodedLength.Statement (.setXB b x) :=
  of_list rfl (Nat.le_of_ble_eq_true rfl) (Nat.le_of_ble_eq_true rfl)
theorem EncodedLength.clrXB (b : BitVec 3) (x : Byte) : EncodedLength.Statement (.clrXB b x) :=
  of_list rfl (Nat.le_of_ble_eq_true rfl) (Nat.le_of_ble_eq_true rfl)
theorem EncodedLength.popRr (p : Pair) : EncodedLength.Statement (.popRr p) :=
  of_list rfl (Nat.le_of_ble_eq_true rfl) (Nat.le_of_ble_eq_true rfl)
theorem EncodedLength.jrZ (d : Byte) : EncodedLength.Statement (.jrZ d) :=
  of_list rfl (Nat.le_of_ble_eq_true rfl) (Nat.le_of_ble_eq_true rfl)
theorem EncodedLength.jrNz (d : Byte) : EncodedLength.Statement (.jrNz d) :=
  of_list rfl (Nat.le_of_ble_eq_true rfl) (Nat.le_of_ble_eq_true rfl)
theorem EncodedLength.jrCs (d : Byte) : EncodedLength.Statement (.jrCs d) :=
  of_list rfl (Nat.le_of_ble_eq_true rfl) (Nat.le_of_ble_eq_true rfl)
theorem EncodedLength.jrCc (d : Byte) : EncodedLength.Statement (.jrCc d) :=
  of_list rfl (Nat.le_of_ble_eq_true rfl) (Nat.le_of_ble_eq_true rfl)
theorem EncodedLength.jrLe (d : Byte) : EncodedLength.Statement (.jrLe d) :=
  of_list rfl (Nat.le_of_ble_eq_true rfl) (Nat.le_of_ble_eq_true rfl)
theorem EncodedLength.jrGt (d : Byte) : EncodedLength.Statement (.jrGt d) :=
  of_list rfl (Nat.le_of_ble_eq_true rfl) (Nat.le_of_ble_eq_true rfl)
theorem EncodedLength.jrT (d : Byte) : EncodedLength.Statement (.jrT d) :=
  of_list rfl (Nat.le_of_ble_eq_true rfl) (Nat.le_of_ble_eq_true rfl)
theorem EncodedLength.jrF (d : Byte) : EncodedLength.Statement (.jrF d) :=
  of_list rfl (Nat.le_of_ble_eq_true rfl) (Nat.le_of_ble_eq_true rfl)
theorem EncodedLength.ret : EncodedLength.Statement .ret :=
  of_list rfl (Nat.le_of_ble_eq_true rfl) (Nat.le_of_ble_eq_true rfl)
theorem EncodedLength.reti : EncodedLength.Statement .reti :=
  of_list rfl (Nat.le_of_ble_eq_true rfl) (Nat.le_of_ble_eq_true rfl)
theorem EncodedLength.jr (d : Byte) : EncodedLength.Statement (.jr d) :=
  of_list rfl (Nat.le_of_ble_eq_true rfl) (Nat.le_of_ble_eq_true rfl)
theorem EncodedLength.callMn (mn : Word) : EncodedLength.Statement (.callMn mn) :=
  of_list rfl (Nat.le_of_ble_eq_true rfl) (Nat.le_of_ble_eq_true rfl)
theorem EncodedLength.jpMn (mn : Word) : EncodedLength.Statement (.jpMn mn) :=
  of_list rfl (Nat.le_of_ble_eq_true rfl) (Nat.le_of_ble_eq_true rfl)
theorem EncodedLength.swi : EncodedLength.Statement .swi :=
  of_list rfl (Nat.le_of_ble_eq_true rfl) (Nat.le_of_ble_eq_true rfl)
theorem EncodedLength.ei : EncodedLength.Statement .ei :=
  of_list rfl (Nat.le_of_ble_eq_true rfl) (Nat.le_of_ble_eq_true rfl)
theorem EncodedLength.di : EncodedLength.Statement .di :=
  of_list rfl (Nat.le_of_ble_eq_true rfl) (Nat.le_of_ble_eq_true rfl)
theorem EncodedLength.ldRG (r : Reg8) (g : Reg8) : EncodedLength.Statement (.ldRG r g) :=
  of_list rfl (Nat.le_of_ble_eq_true rfl) (Nat.le_of_ble_eq_true rfl)
theorem EncodedLength.ldRrGg (rr : Reg16) (gg : Reg16) : EncodedLength.Statement (.ldRrGg rr gg) :=
  of_list rfl (Nat.le_of_ble_eq_true rfl) (Nat.le_of_ble_eq_true rfl)
theorem EncodedLength.xorCfGB (g : Reg8) (b : BitVec 3) : EncodedLength.Statement (.xorCfGB g b) :=
  of_list rfl (Nat.le_of_ble_eq_true rfl) (Nat.le_of_ble_eq_true rfl)
theorem EncodedLength.ldCfGB (g : Reg8) (b : BitVec 3) : EncodedLength.Statement (.ldCfGB g b) :=
  of_list rfl (Nat.le_of_ble_eq_true rfl) (Nat.le_of_ble_eq_true rfl)
theorem EncodedLength.xchRG (r : Reg8) (g : Reg8) : EncodedLength.Statement (.xchRG r g) :=
  of_list rfl (Nat.le_of_ble_eq_true rfl) (Nat.le_of_ble_eq_true rfl)
theorem EncodedLength.xchRrGg (rr : Reg16) (gg : Reg16) :
    EncodedLength.Statement (.xchRrGg rr gg) :=
  of_list rfl (Nat.le_of_ble_eq_true rfl) (Nat.le_of_ble_eq_true rfl)
theorem EncodedLength.setGB (g : Reg8) (b : BitVec 3) : EncodedLength.Statement (.setGB g b) :=
  of_list rfl (Nat.le_of_ble_eq_true rfl) (Nat.le_of_ble_eq_true rfl)
theorem EncodedLength.clrGB (g : Reg8) (b : BitVec 3) : EncodedLength.Statement (.clrGB g b) :=
  of_list rfl (Nat.le_of_ble_eq_true rfl) (Nat.le_of_ble_eq_true rfl)
theorem EncodedLength.jrM (d : Byte) : EncodedLength.Statement (.jrM d) :=
  of_list rfl (Nat.le_of_ble_eq_true rfl) (Nat.le_of_ble_eq_true rfl)
theorem EncodedLength.jrP (d : Byte) : EncodedLength.Statement (.jrP d) :=
  of_list rfl (Nat.le_of_ble_eq_true rfl) (Nat.le_of_ble_eq_true rfl)
theorem EncodedLength.jrSlt (d : Byte) : EncodedLength.Statement (.jrSlt d) :=
  of_list rfl (Nat.le_of_ble_eq_true rfl) (Nat.le_of_ble_eq_true rfl)
theorem EncodedLength.jrSge (d : Byte) : EncodedLength.Statement (.jrSge d) :=
  of_list rfl (Nat.le_of_ble_eq_true rfl) (Nat.le_of_ble_eq_true rfl)
theorem EncodedLength.jrSle (d : Byte) : EncodedLength.Statement (.jrSle d) :=
  of_list rfl (Nat.le_of_ble_eq_true rfl) (Nat.le_of_ble_eq_true rfl)
theorem EncodedLength.jrSgt (d : Byte) : EncodedLength.Statement (.jrSgt d) :=
  of_list rfl (Nat.le_of_ble_eq_true rfl) (Nat.le_of_ble_eq_true rfl)
theorem EncodedLength.jrVs (d : Byte) : EncodedLength.Statement (.jrVs d) :=
  of_list rfl (Nat.le_of_ble_eq_true rfl) (Nat.le_of_ble_eq_true rfl)
theorem EncodedLength.jrVc (d : Byte) : EncodedLength.Statement (.jrVc d) :=
  of_list rfl (Nat.le_of_ble_eq_true rfl) (Nat.le_of_ble_eq_true rfl)
theorem EncodedLength.pushGg (gg : Reg16) : EncodedLength.Statement (.pushGg gg) :=
  of_list rfl (Nat.le_of_ble_eq_true rfl) (Nat.le_of_ble_eq_true rfl)
theorem EncodedLength.popGg (gg : Reg16) : EncodedLength.Statement (.popGg gg) :=
  of_list rfl (Nat.le_of_ble_eq_true rfl) (Nat.le_of_ble_eq_true rfl)
theorem EncodedLength.daa (g : Reg8) : EncodedLength.Statement (.daa g) :=
  of_list rfl (Nat.le_of_ble_eq_true rfl) (Nat.le_of_ble_eq_true rfl)
theorem EncodedLength.das (g : Reg8) : EncodedLength.Statement (.das g) :=
  of_list rfl (Nat.le_of_ble_eq_true rfl) (Nat.le_of_ble_eq_true rfl)
theorem EncodedLength.pushPsw : EncodedLength.Statement .pushPsw :=
  of_list rfl (Nat.le_of_ble_eq_true rfl) (Nat.le_of_ble_eq_true rfl)
theorem EncodedLength.popPsw : EncodedLength.Statement .popPsw :=
  of_list rfl (Nat.le_of_ble_eq_true rfl) (Nat.le_of_ble_eq_true rfl)
theorem EncodedLength.ldPswN (n : Byte) : EncodedLength.Statement (.ldPswN n) :=
  of_list rfl (Nat.le_of_ble_eq_true rfl) (Nat.le_of_ble_eq_true rfl)
theorem EncodedLength.cplGB (g : Reg8) (b : BitVec 3) : EncodedLength.Statement (.cplGB g b) :=
  of_list rfl (Nat.le_of_ble_eq_true rfl) (Nat.le_of_ble_eq_true rfl)
theorem EncodedLength.ldGBCf (g : Reg8) (b : BitVec 3) : EncodedLength.Statement (.ldGBCf g b) :=
  of_list rfl (Nat.le_of_ble_eq_true rfl) (Nat.le_of_ble_eq_true rfl)
theorem EncodedLength.shlca (gg : Reg16) : EncodedLength.Statement (.shlca gg) :=
  of_list rfl (Nat.le_of_ble_eq_true rfl) (Nat.le_of_ble_eq_true rfl)
theorem EncodedLength.shrca (gg : Reg16) : EncodedLength.Statement (.shrca gg) :=
  of_list rfl (Nat.le_of_ble_eq_true rfl) (Nat.le_of_ble_eq_true rfl)
theorem EncodedLength.mul (p : Pair) : EncodedLength.Statement (.mul p) :=
  of_list rfl (Nat.le_of_ble_eq_true rfl) (Nat.le_of_ble_eq_true rfl)
theorem EncodedLength.div (p : Pair) : EncodedLength.Statement (.div p) :=
  of_list rfl (Nat.le_of_ble_eq_true rfl) (Nat.le_of_ble_eq_true rfl)
theorem EncodedLength.shlc (g : Reg8) : EncodedLength.Statement (.shlc g) :=
  of_list rfl (Nat.le_of_ble_eq_true rfl) (Nat.le_of_ble_eq_true rfl)
theorem EncodedLength.shrc (g : Reg8) : EncodedLength.Statement (.shrc g) :=
  of_list rfl (Nat.le_of_ble_eq_true rfl) (Nat.le_of_ble_eq_true rfl)
theorem EncodedLength.rolc (g : Reg8) : EncodedLength.Statement (.rolc g) :=
  of_list rfl (Nat.le_of_ble_eq_true rfl) (Nat.le_of_ble_eq_true rfl)
theorem EncodedLength.rorc (g : Reg8) : EncodedLength.Statement (.rorc g) :=
  of_list rfl (Nat.le_of_ble_eq_true rfl) (Nat.le_of_ble_eq_true rfl)
theorem EncodedLength.negCs (gg : Reg16) : EncodedLength.Statement (.negCs gg) :=
  of_list rfl (Nat.le_of_ble_eq_true rfl) (Nat.le_of_ble_eq_true rfl)
theorem EncodedLength.retn : EncodedLength.Statement .retn :=
  of_list rfl (Nat.le_of_ble_eq_true rfl) (Nat.le_of_ble_eq_true rfl)
theorem EncodedLength.callGg (gg : Reg16) : EncodedLength.Statement (.callGg gg) :=
  of_list rfl (Nat.le_of_ble_eq_true rfl) (Nat.le_of_ble_eq_true rfl)
theorem EncodedLength.jpGg (gg : Reg16) : EncodedLength.Statement (.jpGg gg) :=
  of_list rfl (Nat.le_of_ble_eq_true rfl) (Nat.le_of_ble_eq_true rfl)
theorem EncodedLength.swap (g : Reg8) : EncodedLength.Statement (.swap g) :=
  of_list rfl (Nat.le_of_ble_eq_true rfl) (Nat.le_of_ble_eq_true rfl)
theorem EncodedLength.ldRSrc (r : Reg8) (m : Src) : EncodedLength.Statement (.ldRSrc r m) :=
  of_src m rfl (Nat.le_of_ble_eq_true rfl)
theorem EncodedLength.ldRrSrc (rr : Reg16) (m : Src) : EncodedLength.Statement (.ldRrSrc rr m) :=
  of_src m rfl (Nat.le_of_ble_eq_true rfl)
theorem EncodedLength.xorCfSrcB (m : Src) (b : BitVec 3) :
    EncodedLength.Statement (.xorCfSrcB m b) :=
  of_src m rfl (Nat.le_of_ble_eq_true rfl)
theorem EncodedLength.ldCfSrcB (m : Src) (b : BitVec 3) : EncodedLength.Statement (.ldCfSrcB m b) :=
  of_src m rfl (Nat.le_of_ble_eq_true rfl)
theorem EncodedLength.ldDstRr (m : Dst) (rr : Reg16) : EncodedLength.Statement (.ldDstRr m rr) :=
  of_dst m rfl (Nat.le_of_ble_eq_true rfl)
theorem EncodedLength.xchRSrc (r : Reg8) (m : Src) : EncodedLength.Statement (.xchRSrc r m) :=
  of_src m rfl (Nat.le_of_ble_eq_true rfl)
theorem EncodedLength.ldDstR (m : Dst) (r : Reg8) : EncodedLength.Statement (.ldDstR m r) :=
  of_dst m rfl (Nat.le_of_ble_eq_true rfl)
theorem EncodedLength.setSrcB (m : Src) (b : BitVec 3) : EncodedLength.Statement (.setSrcB m b) :=
  of_src m rfl (Nat.le_of_ble_eq_true rfl)
theorem EncodedLength.clrSrcB (m : Src) (b : BitVec 3) : EncodedLength.Statement (.clrSrcB m b) :=
  of_src m rfl (Nat.le_of_ble_eq_true rfl)
theorem EncodedLength.xchRrSrc (rr : Reg16) (m : Src) : EncodedLength.Statement (.xchRrSrc rr m) :=
  of_src m rfl (Nat.le_of_ble_eq_true rfl)
theorem EncodedLength.cplSrcB (m : Src) (b : BitVec 3) : EncodedLength.Statement (.cplSrcB m b) :=
  of_src m rfl (Nat.le_of_ble_eq_true rfl)
theorem EncodedLength.ldSrcBCf (m : Src) (b : BitVec 3) : EncodedLength.Statement (.ldSrcBCf m b) :=
  of_src m rfl (Nat.le_of_ble_eq_true rfl)
theorem EncodedLength.incSrc (m : Src) : EncodedLength.Statement (.incSrc m) :=
  of_src m rfl (Nat.le_of_ble_eq_true rfl)
theorem EncodedLength.setSrcA (m : Src) : EncodedLength.Statement (.setSrcA m) :=
  of_src m rfl (Nat.le_of_ble_eq_true rfl)
theorem EncodedLength.ldSrcACf (m : Src) : EncodedLength.Statement (.ldSrcACf m) :=
  of_src m rfl (Nat.le_of_ble_eq_true rfl)
theorem EncodedLength.rold (m : Src) : EncodedLength.Statement (.rold m) :=
  of_src m rfl (Nat.le_of_ble_eq_true rfl)
theorem EncodedLength.rord (m : Src) : EncodedLength.Statement (.rord m) :=
  of_src m rfl (Nat.le_of_ble_eq_true rfl)
theorem EncodedLength.decSrc (m : Src) : EncodedLength.Statement (.decSrc m) :=
  of_src m rfl (Nat.le_of_ble_eq_true rfl)
theorem EncodedLength.ldDstN (m : Dst) (n : Byte) : EncodedLength.Statement (.ldDstN m n) :=
  of_dst m rfl (Nat.le_of_ble_eq_true rfl)
theorem EncodedLength.clrSrcA (m : Src) : EncodedLength.Statement (.clrSrcA m) :=
  of_src m rfl (Nat.le_of_ble_eq_true rfl)
theorem EncodedLength.cplSrcA (m : Src) : EncodedLength.Statement (.cplSrcA m) :=
  of_src m rfl (Nat.le_of_ble_eq_true rfl)
theorem EncodedLength.ldCfSrcA (m : Src) : EncodedLength.Statement (.ldCfSrcA m) :=
  of_src m rfl (Nat.le_of_ble_eq_true rfl)
theorem EncodedLength.callSrc (m : Src) : EncodedLength.Statement (.callSrc m) :=
  of_src m rfl (Nat.le_of_ble_eq_true rfl)
theorem EncodedLength.jpSrc (m : Src) : EncodedLength.Statement (.jpSrc m) :=
  of_src m rfl (Nat.le_of_ble_eq_true rfl)

end Sys2Proof.Laws
end

