-- ==== Sys2Proof/Tests/Slice0.lean ====
section
/-! SUPPORT. The model's own tests: ill-formed terms that WellFormed refuses, words written out from
the spec's encodings, one-step tests with the start and end states of 95_test_vectors.md, and for
every obligation with hypotheses a state and operands that meet them. -/

namespace Sys2Proof.Tests

open Sys2Proof.Machine

/-! ## WellFormed refuses -/

theorem test_wellFormed_refuses_defined_register_opcode :
    (Instr.prefixReg 0 0x40).wellFormed = false ∧ (Instr.prefixReg 0 0xFB).wellFormed = false
    ∧ (Instr.prefixReg 3 0xF2).wellFormed = false ∧ (Instr.prefixReg 2 0xF3).wellFormed = false := by
  decide

theorem test_wellFormed_refuses_defined_source_opcode :
    (Instr.prefixSrcX 0x87 0x40).wellFormed = false ∧ (Instr.prefixSrcVw 0x5678 0x40).wellFormed = false
    ∧ (Instr.prefixSrcDe 0x40).wellFormed = false ∧ (Instr.prefixSrcHl 0x40).wellFormed = false
    ∧ (Instr.prefixSrcIx 0x40).wellFormed = false ∧ (Instr.prefixSrcIy 0x40).wellFormed = false
    ∧ (Instr.prefixSrcIncSp 0x40).wellFormed = false ∧ (Instr.prefixSrcHlC 0x40).wellFormed = false
    ∧ (Instr.prefixSrcIxD 1 0x40).wellFormed = false ∧ (Instr.prefixSrcIyD 1 0x40).wellFormed = false
    ∧ (Instr.prefixSrcSpD 1 0x40).wellFormed = false ∧ (Instr.prefixSrcHlD 1 0x40).wellFormed = false
    ∧ (Instr.prefixSrcPcA 0x40).wellFormed = false := by decide

theorem test_wellFormed_refuses_defined_destination_opcode :
    (Instr.prefixDstX 0x87 0x78).wellFormed = false ∧ (Instr.prefixDstVw 0x5678 0x68).wellFormed = false
    ∧ (Instr.prefixDstDe 0xF9).wellFormed = false ∧ (Instr.prefixDstHl 0x78).wellFormed = false
    ∧ (Instr.prefixDstIx 0x78).wellFormed = false ∧ (Instr.prefixDstIy 0x78).wellFormed = false
    ∧ (Instr.prefixDstSpDec 0x78).wellFormed = false ∧ (Instr.prefixDstHlC 0x78).wellFormed = false
    ∧ (Instr.prefixDstIxD 1 0x78).wellFormed = false ∧ (Instr.prefixDstIyD 1 0x78).wellFormed = false
    ∧ (Instr.prefixDstSpD 1 0x78).wellFormed = false ∧ (Instr.prefixDstHlD 1 0x78).wellFormed = false := by
  decide

theorem test_wellFormed_refuses_second_name_of_hl :
    (Instr.incRr .hl7).wellFormed = false ∧ (Instr.decRr .hl7).wellFormed = false
    ∧ (Instr.ldRrMn .hl7 0).wellFormed = false ∧ (Instr.ldRrGg .hl7 .hl).wellFormed = false
    ∧ (Instr.xchRrGg .hl7 .hl).wellFormed = false ∧ (Instr.ldRrSrc .hl7 .hl).wellFormed = false
    ∧ (Instr.ldDstRr .hl .hl7).wellFormed = false := by decide

theorem test_wellFormed_refuses_imf_bit_forms :
    (Instr.setXB 0 0x3A).wellFormed = false ∧ (Instr.clrXB 0 0x3A).wellFormed = false := by decide

theorem test_wellFormed_refuses_div_bc : (Instr.div .bc).wellFormed = false := by decide

/-! ## Words decode -/

/-- Words of a prefix and a second opcode the maps leave undefined after it (30_encoding.md R83, R105 to R111),
written out from their encodings. -/
def wordsPrefix1 : List (List Byte × Instr) :=
  [ ([0xED, 0x4F], .prefixReg 5 0x4F), ([0xE0, 0x87, 0xFF], .prefixSrcX 0x87 0xFF),
    ([0xE1, 0x78, 0x56, 0xFF], .prefixSrcVw 0x5678 0xFF), ([0xE2, 0xFF], .prefixSrcDe 0xFF),
    ([0xE3, 0xFF], .prefixSrcHl 0xFF), ([0xE4, 0xFF], .prefixSrcIx 0xFF),
    ([0xE5, 0xFF], .prefixSrcIy 0xFF), ([0xE6, 0xFF], .prefixSrcIncSp 0xFF),
    ([0xE7, 0xFF], .prefixSrcHlC 0xFF), ([0xD4, 0xD6, 0xFF], .prefixSrcIxD 0xD6 0xFF),
    ([0xD5, 0xD6, 0xFF], .prefixSrcIyD 0xD6 0xFF), ([0xD6, 0xD6, 0xFF], .prefixSrcSpD 0xD6 0xFF),
    ([0xD7, 0xD6, 0xFF], .prefixSrcHlD 0xD6 0xFF), ([0x4F, 0xFF], .prefixSrcPcA 0xFF),
    ([0xF0, 0x87, 0xF8], .prefixDstX 0x87 0xF8),
    ([0xF1, 0x78, 0x56, 0xF8], .prefixDstVw 0x5678 0xF8), ([0xF2, 0xF8], .prefixDstDe 0xF8),
    ([0xF3, 0xF8], .prefixDstHl 0xF8), ([0xF4, 0xF8], .prefixDstIx 0xF8),
    ([0xF5, 0xF8], .prefixDstIy 0xF8), ([0xF6, 0xF8], .prefixDstSpDec 0xF8),
    ([0xF7, 0xF8], .prefixDstHlC 0xF8), ([0x54, 0xD6, 0xF8], .prefixDstIxD 0xD6 0xF8),
    ([0x55, 0xD6, 0xF8], .prefixDstIyD 0xD6 0xF8), ([0x56, 0xD6, 0xF8], .prefixDstSpD 0xD6 0xF8),
    ([0x57, 0xD6, 0xF8], .prefixDstHlD 0xD6 0xF8), ([0xEF, 0xFC], .prefixReg 7 0xFC),
    ([0xE9, 0xD0], .prefixReg 1 0xD0), ([0xEC, 0xF2], .prefixReg 4 0xF2),
    ([0xE9, 0xF3], .prefixReg 1 0xF3) ]

theorem test_decode_prefix1 : ∀ p ∈ wordsPrefix1,
    decode p.1 = .instr p.2 ∧ p.2.wellFormed = true ∧ encode p.2 = p.1 := by decide

/-- Words of a prefix and a second opcode the maps leave undefined after it (30_encoding.md R83, R105 to R111),
written out from their encodings. -/
def wordsPrefix2 : List (List Byte × Instr) :=
  [ ([0xEA, 0xFB], .prefixReg 2 0xFB), ([0xE3, 0x78], .prefixSrcHl 0x78),
    ([0xF3, 0x40], .prefixDstHl 0x40) ]

theorem test_decode_prefix2 : ∀ p ∈ wordsPrefix2,
    decode p.1 = .instr p.2 ∧ p.2.wellFormed = true ∧ encode p.2 = p.1 := by decide

/-- Words of the one-byte opcodes (30_encoding.md R100, R101),
written out from their encodings. -/
def wordsOneByte1 : List (List Byte × Instr) :=
  [ ([0x00], .nop), ([0x04], .clrCf), ([0x05], .setCf), ([0x06], .cplCf),
    ([0x07, 0x87, 0x5A], .cmpXN 0x87 0x5A), ([0x08, 0x87, 0x34, 0x12], .ldwXMn 0x87 0x1234),
    ([0x09, 0x34, 0x12], .ldwHlMn 0x1234), ([0x0A, 0x87, 0x5A], .ldXN 0x87 0x5A),
    ([0x0B, 0x5A], .ldHlN 0x5A), ([0x0C, 0x87], .ldAX 0x87), ([0x0D], .ldAHl),
    ([0x0E, 0x87], .ldXA 0x87), ([0x0F], .ldHlA), ([0x15], .ldAR .d),
    ([0x1D, 0x5A], .ldRN .d 0x5A), ([0x25], .incR .d), ([0x2D], .decR .d), ([0x34], .incRr .ix),
    ([0x37, 0xD6], .ldSpPlusD 0xD6), ([0x3C], .decRr .ix), ([0x3F, 0xD6], .ldSpMinusD 0xD6),
    ([0x45], .ldRA .d), ([0x4C, 0x34, 0x12], .ldRrMn .ix 0x1234), ([0x52], .pushRr .de),
    ([0x5D, 0x87], .ldCfXB 5 0x87), ([0x60, 0x5A], .addcAN 0x5A), ([0x61, 0x5A], .addAN 0x5A),
    ([0x62, 0x5A], .subbAN 0x5A), ([0x63, 0x5A], .subAN 0x5A), ([0x64, 0x5A], .andAN 0x5A) ]

theorem test_decode_onebyte1 : ∀ p ∈ wordsOneByte1,
    decode p.1 = .instr p.2 ∧ p.2.wellFormed = true ∧ encode p.2 = p.1 := by decide

/-- Words of the one-byte opcodes (30_encoding.md R100, R101),
written out from their encodings. -/
def wordsOneByte2 : List (List Byte × Instr) :=
  [ ([0x65, 0x5A], .xorAN 0x5A), ([0x66, 0x5A], .orAN 0x5A), ([0x67, 0x5A], .cmpAN 0x5A),
    ([0x79], .callv 9), ([0x94], .jrsT 0x14), ([0xB4], .jrsF 0x14), ([0xC5, 0x87], .setXB 5 0x87),
    ([0xCD, 0x87], .clrXB 5 0x87), ([0xD2], .popRr .de), ([0xD8, 0xD6], .jrZ 0xD6),
    ([0xD9, 0xD6], .jrNz 0xD6), ([0xDA, 0xD6], .jrCs 0xD6), ([0xDB, 0xD6], .jrCc 0xD6),
    ([0xDC, 0xD6], .jrLe 0xD6), ([0xDD, 0xD6], .jrGt 0xD6), ([0xDE, 0xD6], .jrT 0xD6),
    ([0xDF, 0xD6], .jrF 0xD6), ([0xFA], .ret), ([0xFB], .reti), ([0xFC, 0xD6], .jr 0xD6),
    ([0xFD, 0x34, 0x12], .callMn 0x1234), ([0xFE, 0x34, 0x12], .jpMn 0x1234), ([0xFF], .swi),
    ([0xC0, 0x3A], .ei), ([0xC8, 0x3A], .di), ([0x4E, 0xFF, 0xFF], .ldRrMn .sp 0xFFFF),
    ([0x36], .incRr .sp), ([0x3E], .decRr .sp), ([0x53], .pushRr .hl), ([0xD3], .popRr .hl) ]

theorem test_decode_onebyte2 : ∀ p ∈ wordsOneByte2,
    decode p.1 = .instr p.2 ∧ p.2.wellFormed = true ∧ encode p.2 = p.1 := by decide

/-- Words of the one-byte opcodes (30_encoding.md R100, R101),
written out from their encodings. -/
def wordsOneByte3 : List (List Byte × Instr) :=
  [ ([0x17], .ldAR .h), ([0x9F], .jrsT 0x1F), ([0xA0], .jrsF 0), ([0xC1, 0x3A], .setXB 1 0x3A),
    ([0xC8, 0x3B], .clrXB 0 0x3B) ]

theorem test_decode_onebyte3 : ∀ p ∈ wordsOneByte3,
    decode p.1 = .instr p.2 ∧ p.2.wellFormed = true ∧ encode p.2 = p.1 := by decide

/-- Words of the second opcodes after a register prefix (30_encoding.md R104 to R106),
written out from their encodings. -/
def wordsRegister1 : List (List Byte × Instr) :=
  [ ([0xEA, 0x28], .addcRG .d .c), ([0xEA, 0x29], .addRG .d .c), ([0xEA, 0x2A], .subbRG .d .c),
    ([0xEA, 0x2B], .subRG .d .c), ([0xEA, 0x2C], .andRG .d .c), ([0xEA, 0x2D], .xorRG .d .c),
    ([0xEA, 0x2E], .orRG .d .c), ([0xEA, 0x2F], .cmpRG .d .c), ([0xEA, 0x45], .ldRG .d .c),
    ([0xEE, 0x4C], .ldRrGg .ix .sp), ([0xEA, 0x55], .xorCfGB .c 5), ([0xEA, 0x5D], .ldCfGB .c 5),
    ([0xEA, 0x60, 0x5A], .addcGN .c 0x5A), ([0xEA, 0x61, 0x5A], .addGN .c 0x5A),
    ([0xEA, 0x62, 0x5A], .subbGN .c 0x5A), ([0xEA, 0x63, 0x5A], .subGN .c 0x5A),
    ([0xEA, 0x64, 0x5A], .andGN .c 0x5A), ([0xEA, 0x65, 0x5A], .xorGN .c 0x5A),
    ([0xEA, 0x66, 0x5A], .orGN .c 0x5A), ([0xEA, 0x67, 0x5A], .cmpGN .c 0x5A),
    ([0xEE, 0x68, 0x34, 0x12], .addcGgMn .sp 0x1234),
    ([0xEE, 0x69, 0x34, 0x12], .addGgMn .sp 0x1234),
    ([0xEE, 0x6A, 0x34, 0x12], .subbGgMn .sp 0x1234),
    ([0xEE, 0x6B, 0x34, 0x12], .subGgMn .sp 0x1234),
    ([0xEE, 0x6C, 0x34, 0x12], .andGgMn .sp 0x1234),
    ([0xEE, 0x6D, 0x34, 0x12], .xorGgMn .sp 0x1234),
    ([0xEE, 0x6E, 0x34, 0x12], .orGgMn .sp 0x1234),
    ([0xEE, 0x6F, 0x34, 0x12], .cmpGgMn .sp 0x1234), ([0xEA, 0x75], .xchRG .d .c),
    ([0xEE, 0x7C], .xchRrGg .ix .sp) ]

theorem test_decode_register1 : ∀ p ∈ wordsRegister1,
    decode p.1 = .instr p.2 ∧ p.2.wellFormed = true ∧ encode p.2 = p.1 := by decide

/-- Words of the second opcodes after a register prefix (30_encoding.md R104 to R106),
written out from their encodings. -/
def wordsRegister2 : List (List Byte × Instr) :=
  [ ([0xEE, 0xA0], .addcRrGg .ix .sp), ([0xEE, 0xA1], .addRrGg .ix .sp),
    ([0xEE, 0xA2], .subbRrGg .ix .sp), ([0xEE, 0xA3], .subRrGg .ix .sp),
    ([0xEE, 0xA4], .andRrGg .ix .sp), ([0xEE, 0xA5], .xorRrGg .ix .sp),
    ([0xEE, 0xA6], .orRrGg .ix .sp), ([0xEE, 0xA7], .cmpRrGg .ix .sp),
    ([0xEA, 0xC5], .setGB .c 5), ([0xEA, 0xCD], .clrGB .c 5), ([0xE8, 0xD0, 0xD6], .jrM 0xD6),
    ([0xE8, 0xD1, 0xD6], .jrP 0xD6), ([0xE8, 0xD2, 0xD6], .jrSlt 0xD6),
    ([0xE8, 0xD3, 0xD6], .jrSge 0xD6), ([0xE8, 0xD4, 0xD6], .jrSle 0xD6),
    ([0xE8, 0xD5, 0xD6], .jrSgt 0xD6), ([0xE8, 0xD6, 0xD6], .jrVs 0xD6),
    ([0xE8, 0xD7, 0xD6], .jrVc 0xD6), ([0xEE, 0xD8], .pushGg .sp), ([0xEE, 0xD9], .popGg .sp),
    ([0xEA, 0xDA], .daa .c), ([0xEA, 0xDB], .das .c), ([0xE8, 0xDC], .pushPsw),
    ([0xE8, 0xDD], .popPsw), ([0xE8, 0xDE, 0x5A], .ldPswN 0x5A), ([0xEA, 0xE5], .cplGB .c 5),
    ([0xEA, 0xED], .ldGBCf .c 5), ([0xEE, 0xF0], .shlca .sp), ([0xEE, 0xF1], .shrca .sp),
    ([0xEA, 0xF2], .mul .de) ]

theorem test_decode_register2 : ∀ p ∈ wordsRegister2,
    decode p.1 = .instr p.2 ∧ p.2.wellFormed = true ∧ encode p.2 = p.1 := by decide

/-- Words of the second opcodes after a register prefix (30_encoding.md R104 to R106),
written out from their encodings. -/
def wordsRegister3 : List (List Byte × Instr) :=
  [ ([0xEA, 0xF3], .div .de), ([0xEA, 0xF4], .shlc .c), ([0xEA, 0xF5], .shrc .c),
    ([0xEA, 0xF6], .rolc .c), ([0xEA, 0xF7], .rorc .c), ([0xEE, 0xFA], .negCs .sp),
    ([0xE8, 0xFB], .retn), ([0xEE, 0xFD], .callGg .sp), ([0xEE, 0xFE], .jpGg .sp),
    ([0xEA, 0xFF], .swap .c), ([0xEF, 0xB9], .addRrGg .hl7 .hl7), ([0xEB, 0xD8], .pushGg .hl),
    ([0xEF, 0xD8], .pushGg .hl7), ([0xE8, 0xE8], .ldGBCf .a 0), ([0xEF, 0xF7], .rorc .h),
    ([0xE9, 0xF2], .mul .bc) ]

theorem test_decode_register3 : ∀ p ∈ wordsRegister3,
    decode p.1 = .instr p.2 ∧ p.2.wellFormed = true ∧ encode p.2 = p.1 := by decide

/-- Words of the second opcodes after a source prefix (30_encoding.md R83, R108),
written out from their encodings. -/
def wordsSource1 : List (List Byte × Instr) :=
  [ ([0xE0, 0x87, 0x28], .addcRSrc .d (.dir8 0x87)),
    ([0xE1, 0x78, 0x56, 0x29], .addRSrc .d (.dir16 0x5678)), ([0xE2, 0x2A], .subbRSrc .d .de),
    ([0xE3, 0x2B], .subRSrc .d .hl), ([0xE4, 0x2C], .andRSrc .d .ix),
    ([0xE5, 0x2D], .xorRSrc .d .iy), ([0xE6, 0x2E], .orRSrc .d .incSp),
    ([0xE7, 0x2F], .cmpRSrc .d .hlC), ([0xD4, 0xD6, 0x45], .ldRSrc .d (.ixD 0xD6)),
    ([0xD5, 0x32, 0x4C], .ldRrSrc .ix (.iyD 0x32)),
    ([0xD6, 0xFE, 0x55], .xorCfSrcB (.spD 0xFE) 5), ([0xD7, 0x12, 0x5D], .ldCfSrcB (.hlD 0x12) 5),
    ([0x4F, 0x60, 0x5A], .addcSrcN .pcA 0x5A),
    ([0xE0, 0x87, 0x61, 0x5A], .addSrcN (.dir8 0x87) 0x5A),
    ([0xE1, 0x78, 0x56, 0x62, 0x5A], .subbSrcN (.dir16 0x5678) 0x5A),
    ([0xE2, 0x63, 0x5A], .subSrcN .de 0x5A), ([0xE3, 0x64, 0x5A], .andSrcN .hl 0x5A),
    ([0xE4, 0x65, 0x5A], .xorSrcN .ix 0x5A), ([0xE5, 0x66, 0x5A], .orSrcN .iy 0x5A),
    ([0xE6, 0x67, 0x5A], .cmpSrcN .incSp 0x5A), ([0xE7, 0x75], .xchRSrc .d .hlC),
    ([0xD4, 0xD6, 0xA0], .addcRrSrc .ix (.ixD 0xD6)),
    ([0xD5, 0x32, 0xA1], .addRrSrc .ix (.iyD 0x32)),
    ([0xD6, 0xFE, 0xA2], .subbRrSrc .ix (.spD 0xFE)),
    ([0xD7, 0x12, 0xA3], .subRrSrc .ix (.hlD 0x12)), ([0x4F, 0xA4], .andRrSrc .ix .pcA),
    ([0xE0, 0x87, 0xA5], .xorRrSrc .ix (.dir8 0x87)),
    ([0xE1, 0x78, 0x56, 0xA6], .orRrSrc .ix (.dir16 0x5678)), ([0xE2, 0xA7], .cmpRrSrc .ix .de),
    ([0xE3, 0xC5], .setSrcB .hl 5) ]

theorem test_decode_source1 : ∀ p ∈ wordsSource1,
    decode p.1 = .instr p.2 ∧ p.2.wellFormed = true ∧ encode p.2 = p.1 := by decide

/-- Words of the second opcodes after a source prefix (30_encoding.md R83, R108),
written out from their encodings. -/
def wordsSource2 : List (List Byte × Instr) :=
  [ ([0xE4, 0xCD], .clrSrcB .ix 5), ([0xE5, 0xDC], .xchRrSrc .ix .iy),
    ([0xE6, 0xE5], .cplSrcB .incSp 5), ([0xE7, 0xED], .ldSrcBCf .hlC 5),
    ([0xD4, 0xD6, 0xF0], .incSrc (.ixD 0xD6)), ([0xD5, 0x32, 0xF2], .setSrcA (.iyD 0x32)),
    ([0xD6, 0xFE, 0xF3], .ldSrcACf (.spD 0xFE)), ([0xD7, 0x12, 0xF6], .rold (.hlD 0x12)),
    ([0x4F, 0xF7], .rord .pcA), ([0xE0, 0x87, 0xF8], .decSrc (.dir8 0x87)),
    ([0xE1, 0x78, 0x56, 0xFA], .clrSrcA (.dir16 0x5678)), ([0xE2, 0xFB], .cplSrcA .de),
    ([0xE3, 0xFC], .ldCfSrcA .hl), ([0xE4, 0xFD], .callSrc .ix), ([0xE5, 0xFE], .jpSrc .iy),
    ([0xE6, 0xDE], .xchRrSrc .sp .incSp), ([0xE6, 0xDF], .xchRrSrc .hl7 .incSp),
    ([0xE0, 0x40, 0xE3], .cplSrcB (.dir8 0x40) 3),
    ([0xE1, 0x00, 0x03, 0x61, 0x22], .addSrcN (.dir16 0x0300) 0x22),
    ([0x4F, 0x59], .ldCfSrcB .pcA 1), ([0x4F, 0xFE], .jpSrc .pcA),
    ([0xE0, 0x87, 0x40], .ldRSrc .a (.dir8 0x87)),
    ([0xE1, 0x78, 0x56, 0x41], .ldRSrc .w (.dir16 0x5678)), ([0xE2, 0x42], .ldRSrc .c .de),
    ([0xE3, 0x43], .ldRSrc .b .hl), ([0xE4, 0x44], .ldRSrc .e .ix),
    ([0xE5, 0x45], .ldRSrc .d .iy), ([0xE6, 0x46], .ldRSrc .l .incSp),
    ([0xE7, 0x47], .ldRSrc .h .hlC), ([0xD4, 0xD6, 0x40], .ldRSrc .a (.ixD 0xD6)) ]

theorem test_decode_source2 : ∀ p ∈ wordsSource2,
    decode p.1 = .instr p.2 ∧ p.2.wellFormed = true ∧ encode p.2 = p.1 := by decide

/-- Words of the second opcodes after a source prefix (30_encoding.md R83, R108),
written out from their encodings. -/
def wordsSource3 : List (List Byte × Instr) :=
  [ ([0xD5, 0x32, 0x41], .ldRSrc .w (.iyD 0x32)), ([0xD6, 0xFE, 0x42], .ldRSrc .c (.spD 0xFE)),
    ([0xD7, 0x12, 0x43], .ldRSrc .b (.hlD 0x12)), ([0x4F, 0x44], .ldRSrc .e .pcA) ]

theorem test_decode_source3 : ∀ p ∈ wordsSource3,
    decode p.1 = .instr p.2 ∧ p.2.wellFormed = true ∧ encode p.2 = p.1 := by decide

/-- Words of the second opcodes after a destination prefix (30_encoding.md R83, R109),
written out from their encodings. -/
def wordsDestination : List (List Byte × Instr) :=
  [ ([0xF0, 0x87, 0x6C], .ldDstRr (.dir8 0x87) .ix), ([0xF5, 0x7D], .ldDstR .iy .d),
    ([0x56, 0xFE, 0xF9, 0x5A], .ldDstN (.spD 0xFE) 0x5A),
    ([0xF0, 0x87, 0x7F], .ldDstR (.dir8 0x87) .h),
    ([0xF1, 0x78, 0x56, 0x7F], .ldDstR (.dir16 0x5678) .h), ([0xF2, 0x7F], .ldDstR .de .h),
    ([0xF3, 0x7F], .ldDstR .hl .h), ([0xF4, 0x7F], .ldDstR .ix .h),
    ([0xF5, 0x7F], .ldDstR .iy .h), ([0xF6, 0x7F], .ldDstR .spDec .h),
    ([0xF7, 0x7F], .ldDstR .hlC .h), ([0x54, 0xD6, 0x7F], .ldDstR (.ixD 0xD6) .h),
    ([0x55, 0x32, 0x7F], .ldDstR (.iyD 0x32) .h), ([0x56, 0xFE, 0x7F], .ldDstR (.spD 0xFE) .h),
    ([0x57, 0x12, 0x7F], .ldDstR (.hlD 0x12) .h) ]

theorem test_decode_destination : ∀ p ∈ wordsDestination,
    decode p.1 = .instr p.2 ∧ p.2.wellFormed = true ∧ encode p.2 = p.1 := by decide

/-! ## One step -/

/-- The start of the vectors: all zero, PC at 8000H. -/
def start : State := { State.reset with pc := 0x8000 }

/-- The registers of the start. -/
def zero : Regs := start.regs

/-- The step of a state with the given bytes at its PC. -/
def run (bytes : List Byte) (s : State) : Result :=
  step { s with mem := placeBytes bytes s.pc s.mem }

/-- The step answers a next state with the given flags (JZCHSV in bits 7 to 2) and PC, of which c
holds. -/
def ends (x : Result) (flags : Byte) (pc : Word) (c : State → Bool) : Bool :=
  match x with
  | .next t => t.psw = pswOfByte flags && t.pc = pc && c t
  | .fault _ => false
  | .refused _ => false

/-- The step stops with an undefined encoding. -/
def undef (x : Result) (bytes : List Byte) : Bool :=
  match x with
  | .next _ => false
  | .fault f => f = .undefinedInstruction bytes
  | .refused _ => false

theorem test_ld_a_ixd : ends (run [0xD4, 0xD6, 0x40]
    { start with regs := { zero with ix := 0x0123 }, mem := [(0x00F9, 0x27)] }) 0x80 0x8003
    (fun t => t.regs.a = 0x27) = true := by decide

theorem test_ld_wa_wraps : ends (run [0xE1, 0xFF, 0xFF, 0x48]
    { start with mem := [(0x0000, 0x34), (0xFFFF, 0x12)] }) 0x80 0x8004
    (fun t => t.regs.a = 0x12 && t.regs.w = 0x34) = true := by decide

theorem test_ld_sp_from_incSp : ends (run [0xE6, 0x4E]
    { start with regs := { zero with sp := 0x01FD }, mem := [(0x01FF, 0x03)] }) 0x80 0x8002
    (fun t => t.regs.sp = 0x0300) = true := by decide

theorem test_ld_spDec_sp : ends (run [0xF6, 0x6E] { start with regs := { zero with sp := 0x0200 } })
    0x80 0x8002 (fun t => t.regs.sp = 0x01FF && t.byteAt 0x0200 = 0 && t.byteAt 0x0201 = 2) = true := by
  decide

theorem test_push_wa_wraps : ends (run [0x50] { start with regs := { zero with w := 0x12, a := 0x34 } })
    0x00 0x8001 (fun t => t.regs.sp = 0xFFFE && t.byteAt 0 = 0x12 && t.byteAt 0xFFFF = 0x34) = true := by
  decide

theorem test_pop_psw : ends (run [0xE8, 0xDD]
    { start with regs := { zero with sp := 0x0136 }, mem := [(0x0137, 0x63)] }) 0x60 0x8002
    (fun t => t.regs.sp = 0x0137 && !t.imf) = true := by decide

theorem test_ld_sp_plus_d : ends (run [0x37, 0xFF] { start with regs := { zero with sp := 0x0100 } })
    0x80 0x8002 (fun t => t.regs.sp = 0x01FF) = true := by decide

theorem test_xch_sp_incSp : ends (run [0xE6, 0xDE]
    { start with regs := { zero with sp := 0x01FD }, mem := [(0x01FF, 0x05)] }) 0x80 0x8002
    (fun t => t.regs.sp = 0x0500 && t.byteAt 0x01FE = 0xFE && t.byteAt 0x01FF = 0x01) = true := by decide

theorem test_xor_a_ff : ends (run [0x65, 0xFF] { start with regs := { zero with a := 0x69 } })
    0x00 0x8002 (fun t => t.regs.a = 0x96) = true := by decide

theorem test_add_a_b : ends (run [0xEB, 0x01] { start with regs := { zero with a := 0x26, b := 0x57 } })
    0x00 0x8002 (fun t => t.regs.a = 0x7D) = true := by decide

theorem test_sub_a_b : ends (run [0xEB, 0x03] { start with regs := { zero with a := 0x87, b := 0x39 } })
    0x14 0x8002 (fun t => t.regs.a = 0x4E) = true := by decide

theorem test_add_five_bytes : ends (run [0xE1, 0x00, 0x03, 0x61, 0x22]
    { start with mem := [(0x0300, 0x11)] }) 0x00 0x8005 (fun t => t.byteAt 0x0300 = 0x33) = true := by
  decide

theorem test_cmp_x_n : ends (run [0x07, 0x40, 0x80] { start with mem := [(0x0040, 0x7F)] })
    0x2C 0x8003 (fun t => t.regs = zero) = true := by decide

theorem test_or_writes_imf : ends (run [0xE0, 0x3A, 0x66, 0x01] start) 0x00 0x8004
    (fun t => t.imf) = true := by decide

theorem test_inc_l : ends (run [0x26] { start with regs := { zero with l := 0xFF } }) 0xC0 0x8001
    (fun t => t.regs.l = 0) = true := by decide

theorem test_dec_ix : ends (run [0x3C] start) 0x80 0x8001 (fun t => t.regs.ix = 0xFFFF) = true := by
  decide

theorem test_daa_row5 : ends (run [0xE8, 0xDA] { start with regs := { zero with a := 0x9A } })
    0xF0 0x8002 (fun t => t.regs.a = 0) = true := by decide

theorem test_das_row4 : ends (run [0xE8, 0xDB]
    { start with regs := { zero with a := 0x99 }, psw := pswOfByte 0x30 }) 0xA0 0x8002
    (fun t => t.regs.a = 0x33) = true := by decide

theorem test_mul_w_a : ends (run [0xE8, 0xF2]
    { start with regs := { zero with w := 0x87, a := 0xF2 } }) 0x00 0x8002
    (fun t => t.regs.w = 0x7F && t.regs.a = 0x9E) = true := by decide

theorem test_div_wa_c : ends (run [0xE8, 0xF3]
    { start with regs := { zero with w := 0x12, a := 0x34, c := 0x56 } }) 0x00 0x8002
    (fun t => t.regs.a = 0x36 && t.regs.w = 0x10) = true := by decide

theorem test_neg_cs_hl : ends (run [0xEB, 0xFA]
    { start with regs := { zero with h := 0x56, l := 0x78 }, psw := pswOfByte 0x20 }) 0xA0 0x8002
    (fun t => t.get16 .hl = 0xA988) = true := by decide

theorem test_rorc_a : ends (run [0xE8, 0xF7]
    { start with regs := { zero with a := 0x6D }, psw := pswOfByte 0x20 }) 0xA0 0x8002
    (fun t => t.regs.a = 0xB6) = true := by decide

theorem test_shlca_wa : ends (run [0xE8, 0xF0] { start with regs := { zero with w := 0xC0 } })
    0xA8 0x8002 (fun t => t.get16 .wa = 0x8000) = true := by decide

theorem test_shrca_de : ends (run [0xEA, 0xF1]
    { start with regs := { zero with d := 0x89, e := 0xAB } }) 0xA8 0x8002
    (fun t => t.get16 .de = 0xC4D5) = true := by decide

theorem test_rold_a_x : ends (run [0xE0, 0x87, 0xF6]
    { start with regs := { zero with a := 0x12 }, mem := [(0x0087, 0x56)] }) 0x80 0x8003
    (fun t => t.regs.a = 0x15 && t.byteAt 0x0087 = 0x62) = true := by decide

theorem test_rord_a_x : ends (run [0xE0, 0x87, 0xF7]
    { start with regs := { zero with a := 0x12 }, mem := [(0x0087, 0x56)] }) 0x80 0x8003
    (fun t => t.regs.a = 0x16 && t.byteAt 0x0087 = 0x25) = true := by decide

theorem test_set_hl_a : ends (run [0xE3, 0xF2]
    { start with regs := { zero with h := 0x01, l := 0x23, a := 0x9C }, mem := [(0x0123, 0xC6)] })
    0xC0 0x8002 (fun t => t.byteAt 0x0123 = 0xD6) = true := by decide

theorem test_ei : ends (run [0xC0, 0x3A] start) 0xC0 0x8002 (fun t => t.imf) = true := by decide

theorem test_di : ends (run [0xC8, 0x3A] { start with mem := [(0x003A, 0xFF)] }) 0x00 0x8002
    (fun t => t.byteAt 0x003A = 0xFE) = true := by decide

theorem test_jrs_t_taken : ends (run [0x94] { start with pc := 0xE863, psw := pswOfByte 0x80 })
    0x80 0xE859 (fun _ => true) = true := by decide

theorem test_jrs_t_not_taken : ends (run [0x8F] start) 0x80 0x8001 (fun _ => true) = true := by decide

theorem test_jr_m : ends (run [0xE8, 0xD0, 0x35] { start with pc := 0xD541, psw := pswOfByte 0x08 })
    0x88 0xD579 (fun _ => true) = true := by decide

theorem test_jp_pc_a : ends (run [0x4F, 0xFE]
    { start with pc := 0xC172, regs := { zero with a := 0x16 }
                 mem := [(0xC18A, 0x4B), (0xC18B, 0xD0)] }) 0x00 0xD04B (fun _ => true) = true := by
  decide

theorem test_callv : ends (run [0x74]
    { start with pc := 0xD1A4, regs := { zero with sp := 0x0123 }
                 mem := [(0xFFC8, 0x45), (0xFFC9, 0xE6)] }) 0x00 0xE645
    (fun t => t.regs.sp = 0x0121 && t.byteAt 0x0123 = 0xD1 && t.byteAt 0x0122 = 0xA5) = true := by decide

theorem test_call_sp : ends (run [0xEE, 0xFD] { start with regs := { zero with sp := 0x0200 } })
    0x00 0x0200 (fun t => t.regs.sp = 0x01FE && t.byteAt 0x01FF = 0x02) = true := by decide

theorem test_call_spd : ends (run [0xD6, 0x00, 0xFD]
    { start with regs := { zero with sp := 0x0200 }, mem := [(0x0201, 0x90)] }) 0x00 0x9000
    (fun t => t.byteAt 0x0200 = 0x80 && t.byteAt 0x01FF = 0x03) = true := by decide

theorem test_ret_wraps : ends (run [0xFA]
    { start with regs := { zero with sp := 0xFFFE }, mem := [(0x0000, 0x12), (0xFFFF, 0x34)] })
    0x00 0x1234 (fun t => t.regs.sp = 0) = true := by decide

theorem test_retn : ends (run [0xE8, 0xFB]
    { start with regs := { zero with sp := 0x01FC }
                 mem := [(0x003A, 0x01), (0x01FD, 0x07), (0x01FE, 0x80), (0x01FF, 0xFE)] })
    0xFC 0x8007 (fun t => t.regs.sp = 0x01FF && !t.imf) = true := by decide

theorem test_nop : ends (run [0x00] start) 0x00 0x8001 (fun t => t.regs = zero) = true := by decide

theorem test_undefined_first_byte : undef (run [0x68, 0x00] start) [0x68] = true := by decide

theorem test_undefined_after_prefix :
    undef (run [0xEC, 0xF2] start) [0xEC, 0xF2] = true
    ∧ undef (run [0xE3, 0xF4] start) [0xE3, 0xF4] = true
    ∧ undef (run [0xE9, 0xD0, 0x05] start) [0xE9, 0xD0] = true := by decide

theorem test_halt_address : step { start with haltAddress := some 0x8000 } = .refused .runEnded := rfl

theorem test_withFetchWord_runs : ends (step (State.reset.withFetchWord 16 0x5318)) 0x80 2
    (fun t => t.regs.a = 0x53) = true := by decide

/-! ## Witnesses of the obligations' hypotheses -/

/-- Under the default regions every address is `ram`. -/
theorem start_allRam : start.allRam := fun _ => rfl

theorem witness_decodeInvertsEncode :
    (Instr.addSrcN (.dir16 0x0300) 0x22).wellFormed = true
    ∧ (Instr.prefixReg 7 0xFC).wellFormed = true := by decide

theorem witness_decodedBytesAreItsEncoding :
    decode [0xE1, 0x00, 0x03, 0x61, 0x22, 0xFF] = .instr (.addSrcN (.dir16 0x0300) 0x22) := by decide

theorem witness_decoderDecidesWithinFiveBytes :
    5 ≤ [0xE1, 0x00, 0x03, 0x61, (0x22 : Byte)].length ∧ decode [0x01, 0x22] = .undefined [0x01]
    ∧ decode [0xF9] = .undefined [0xF9] := by decide

/-- The start with a byte at its PC. -/
def withByte (b : Byte) : State := { start with mem := [(0x8000, b)] }

theorem witness_undefinedEncodingsStop :
    ((withByte 0x01).haltAddress ≠ some (withByte 0x01).pc ∧ (withByte 0x01).offers = []
      ∧ plainAt (withByte 0x01) (withByte 0x01).pc = true ∧ (withByte 0x01).codeByte 0 = 0x01)
    ∧ ((withByte 0xF9).haltAddress ≠ some (withByte 0xF9).pc ∧ (withByte 0xF9).offers = []
      ∧ plainAt (withByte 0xF9) (withByte 0xF9).pc = true ∧ (withByte 0xF9).codeByte 0 = 0xF9) := by
  decide

theorem witness_stepRunsTheDecodedInstruction :
    let s := { start with mem := placeBytes [0xD9, 0xFA] start.pc [] }
    s.haltAddress ≠ some s.pc ∧ s.offers = [] ∧ plainFetch s = true
    ∧ decode [s.codeByte 0, s.codeByte 1, s.codeByte 2, s.codeByte 3, s.codeByte 4]
      = .instr (.jrNz 0xFA) := by decide

theorem witness_stepRunsTheEncodedInstruction :
    let s : State := { start with
      pc := 0xFFFF, mem := placeBytes [0xD9, 0xFA] 0xFFFF [], regions := [⟨0x0001, 0xFFFE, .absent⟩] }
    s.haltAddress ≠ some s.pc ∧ s.offers = [] ∧ (Instr.jrNz 0xFA).wellFormed = true
    ∧ ∀ k, k < (encode (.jrNz 0xFA)).length → plainAt s (s.pc + BitVec.ofNat 16 k) = true
      ∧ (encode (.jrNz 0xFA))[k]? = some (s.codeByte k) := by decide

/-- A program in `rom` at 8000H whose fifth byte's address is `absent`. -/
def inRom (bytes : List Byte) : State :=
  { start with mem := placeBytes bytes start.pc []
               regions := [⟨0x8000, 0x8003, .rom⟩, ⟨0x8004, 0x8004, .absent⟩] }

theorem witness_fetchThroughRegions :
    let s := inRom [0xE0, 0x40, 0x67, 0x80]
    s.haltAddress ≠ some s.pc ∧ s.offers = [] ∧ (Instr.cmpSrcN (.dir8 0x40) 0x80).wellFormed = true
    ∧ (∀ k, k < (encode (.cmpSrcN (.dir8 0x40) 0x80)).length →
      s.kindAt (s.pc + BitVec.ofNat 16 k) ≠ .absent)
    ∧ s.readRun (encode (.cmpSrcN (.dir8 0x40) 0x80)).length s.pc
      = (encode (.cmpSrcN (.dir8 0x40) 0x80), s) := by decide

theorem witness_fetchOfAnAbsentByte :
    let s := inRom [0xE1, 0x00, 0x03, 0x61]
    s.haltAddress ≠ some s.pc ∧ s.offers = []
    ∧ (∀ k, k < 4 → s.kindAt (s.pc + BitVec.ofNat 16 k) ≠ .absent)
    ∧ decode (s.readRun 4 s.pc).1 = .more ∧ s.kindAt (s.pc + BitVec.ofNat 16 4) = .absent := by decide

theorem witness_fetchOfAnAbsentFirstByte :
    let s := { start with pc := 0xC000, regions := [⟨0xC000, 0xFFFF, .absent⟩] }
    s.haltAddress ≠ some s.pc ∧ s.offers = [] ∧ decode (s.readRun 0 s.pc).1 = .more
    ∧ s.kindAt (s.pc + BitVec.ofNat 16 0) = .absent := by decide

theorem witness_stepIsRefusedExactlyAtHaltAddress :
    step { start with haltAddress := some 0x8000, schedule := [[.reset]] } = .refused .runEnded := rfl

theorem witness_stepKeepsMemoryCanonical :
    start.Inv ∧ step start = .next { start with pc := 0x8001 } := ⟨⟨rfl, rfl⟩, rfl⟩

theorem witness_stepKeepsParametersAndHistory :
    step { start with schedule := [[.nmi, .reset], []] }
      = .next { State.reset with schedule := [[]] } := rfl

theorem witness_instructionsComplete :
    isPrefixRow .swi = false ∧ { start with regions := [⟨0xC000, 0xFFFF, .rom⟩] }.noAbsent := by
  refine ⟨rfl, fun a => ?_⟩
  show kindIn _ a ≠ _
  unfold kindIn kindIn
  split <;> decide

theorem witness_stopsNameTheirCause :
    exec (.prefixReg 0 0x4F) start = .fault (.undefinedInstruction [0xE8, 0x4F])
    ∧ exec .ldAHl { start with regions := [⟨0, 0xFFFF, .absent⟩] } = .fault (.absentMemory 0)
    ∧ (0 : Word) ∈ accessedBy .ldAHl { start with regions := [⟨0, 0xFFFF, .absent⟩] }
    ∧ { start with regions := [⟨0, 0xFFFF, .absent⟩] }.kindAt 0 = .absent :=
  ⟨rfl, rfl, by decide, by decide⟩

theorem witness_frames :
    exec (.ldXN 0x40 1) start = .next { start with
      pc := 0x8003, psw := { start.psw with jf := true }, mem := [(0x40, 1)] }
    ∧ exec .setCf start = .next { start with pc := 0x8001, psw := { start.psw with cf := true } } :=
  ⟨rfl, rfl⟩

theorem witness_bytesOutsideRam :
    exec (.ldXN 0x40 1) { start with regions := [⟨0, 0xFF, .rom⟩] } = .next { start with
      pc := 0x8003, psw := { start.psw with jf := true }, regions := [⟨0, 0xFF, .rom⟩] }
    ∧ { start with regions := [⟨0, 0xFF, .rom⟩] }.kindAt 0x40 ≠ .ram
    ∧ (∀ a ∈ accessedBy (.ldXN 0x40 1) { start with regions := [⟨0, 0xFF, .rom⟩] },
      { start with regions := [⟨0, 0xFF, .rom⟩] }.kindAt a ≠ .device) :=
  ⟨rfl, by decide, fun a h => by
    rw [show a = 0x40 from List.mem_singleton.mp h]; decide⟩

theorem witness_pcMovesPastTheInstruction : transfersControl .setCf = false := rfl

theorem witness_halfCarryIsReadByDecimalAdjustOnly :
    (∀ g, Instr.setCf ≠ .daa g) ∧ (∀ g, Instr.setCf ≠ .das g) ∧ Instr.setCf ≠ .pushPsw
    ∧ Instr.setCf ≠ .swi
    ∧ exec .setCf start = .next { start with pc := 0x8001, psw := { start.psw with cf := true } } :=
  ⟨nofun, nofun, nofun, nofun, rfl⟩

theorem witness_defaultRegions : start.allRam ∧ Memory.wf start.mem = true ∧ start.Inv :=
  ⟨start_allRam, rfl, rfl, rfl⟩

theorem witness_memoryOperands : start.allRam
    ∧ (0 : Byte) = start.byteAt (srcAddr .incSp start) ∧ (0 : Word) = start.wordAt (srcAddr .incSp start)
    ∧ (0 : Nat) = (start.byteAt (srcAddr .incSp start)).toNat ∧ (0 : Nat) = start.regs.a.toNat
    ∧ start.sp + 1 = srcAddr .incSp start ∧ (0 : BitVec 3).toNat = start.regs.a.toNat % 8
    ∧ (0 : Byte) = start.byteAt (start.sp + 3) :=
  ⟨start_allRam, by decide, by decide, by decide, by decide, by decide, by decide, by decide⟩

/-- The start with A and the flags given. -/
def withA (a : Byte) (flags : Byte) : State :=
  { start with regs := { zero with a := a }, psw := pswOfByte flags }

theorem witness_decimalAdjustFollowsItsTable :
    (∃ row ∈ daaTable, row.matches ((withA 0x99 0).get8 .a) (withA 0x99 0).psw)
    ∧ (∃ row ∈ dasTable, row.matches ((withA 0x66 0x30).get8 .a) (withA 0x66 0x30).psw)
    ∧ (∀ row ∈ daaTable, ¬ row.matches ((withA 0x3A 0x20).get8 .a) (withA 0x3A 0x20).psw)
    ∧ ∀ row ∈ dasTable, ¬ row.matches ((withA 0x1A 0).get8 .a) (withA 0x1A 0).psw := by
  unfold AdjustRow.matches
  decide

theorem witness_decimalAdjustMakesDecimalSums :
    isBcd ((withA 0x99 0x20).get8 .a) ∧ isBcd 0x99 := by unfold isBcd; decide

theorem witness_multiplyReplacesThePair : start.get16 (pairReg .wa) = mkWord 0 0 := by decide

/-- The start with WA and C given. -/
def withWaC (w a c : Byte) : State := { start with regs := { zero with w := w, a := a, c := c } }

theorem witness_divideLeavesQuotientAndRemainder : Pair.wa ≠ .bc
    ∧ ((withWaC 0xFE 0xFF 0xFF).regs.c.toNat ≠ 0
      ∧ ((withWaC 0xFE 0xFF 0xFF).get16 (pairReg .wa)).toNat / 255 < 256)
    ∧ ((withWaC 0xFF 0x00 0xFF).regs.c.toNat ≠ 0
      ∧ 256 ≤ ((withWaC 0xFF 0x00 0xFF).get16 (pairReg .wa)).toNat / 255)
    ∧ (withWaC 0x12 0x34 0).regs.c.toNat = 0 := by decide

theorem witness_shifts : (0x80 : Nat) = ((withA 0x80 0).get8 .a).toNat
    ∧ (0x4000 : Nat) = ((withWaC 0x40 0 0).get16 .wa).toNat
    ∧ (0x4000 : Int) = ((withWaC 0x40 0 0).get16 .wa).toInt := by decide

theorem witness_callsPushTheReturnAddress : Src.spD 0 ≠ .incSp := by decide

/-- The start with SP given. -/
def withSp (sp : Word) : State := { start with regs := { zero with sp := sp } }

theorem witness_interruptReturnUndoesSoftwareInterrupt :
    ((withSp 0x0039).Inv ∧ (withSp 0x003D).Inv)
    ∧ ((withSp 0x0039).sp ≠ 0x003A ∧ (withSp 0x0039).sp - 1 ≠ 0x003A ∧ (withSp 0x0039).sp - 2 ≠ 0x003A)
    ∧ ((withSp 0x003D).sp ≠ 0x003A ∧ (withSp 0x003D).sp - 1 ≠ 0x003A
      ∧ (withSp 0x003D).sp - 2 ≠ 0x003A) :=
  ⟨⟨⟨rfl, rfl⟩, rfl, rfl⟩, by decide⟩

/-- The start with HL at an address of the direct page. -/
def withHl (l : Byte) : State := { start with regs := { zero with l := l } }

theorem witness_interruptEnableIsABitOfMemory :
    (withHl 0x3A).get16 .hl = 0x003A ∧ (withHl 0x39).get16 .hl = 0x0039
    ∧ dstAddr .hl (withHl 0x3A) = 0x003A ∧ dstAddr .hl (withHl 0x39) = 0x0039
    ∧ srcAddr .hl (withHl 0x3A) = 0x003A ∧ srcAddr .hl (withHl 0x39) = 0x0039
    ∧ (withSp 0x003A).sp = 0x003A ∧ (withSp 0x003B).sp = 0x003B
    ∧ Memory.wf (withHl 0x3A).mem = true ∧ 0x003A ∉ storedAt (.pushGg .bc) (withHl 0x3A) := by decide

theorem witness_interruptEnableUnderTheDefaultRegions :
    (withHl 0x3A).allRam ∧ (withSp 0x003A).allRam := ⟨fun _ => rfl, fun _ => rfl⟩

theorem witness_resetEventReloadsTheMachine :
    let s := { start with schedule := [[.nmi, .reset]] }
    s.haltAddress ≠ some s.pc ∧ .reset ∈ s.offers := by decide

/-- The start with the given offers and IMF byte. -/
def offered (es : List HostEvent) (imf : Byte) : State :=
  { start with schedule := [es], mem := Memory.set [] 0x003A imf }

theorem witness_interruptsAreAcceptedAtBoundaries :
    (.nmi ∈ (offered [.interrupt 1, .nmi] 0).offers ∧ .reset ∉ (offered [.interrupt 1, .nmi] 0).offers)
    ∧ ((offered [.interrupt 0] 1).offers = .interrupt 0 :: [] ∧ (offered [.interrupt 0] 1).imf = true
      ∧ .reset ∉ (offered [.interrupt 0] 1).offers)
    ∧ (.nmi ∉ (offered [.interrupt 0] 0xFE).offers ∧ (offered [.interrupt 0] 0xFE).imf = false
      ∧ .reset ∉ (offered [.interrupt 0] 0xFE).offers
      ∧ (offered [.interrupt 0] 0xFE).haltAddress ≠ some (offered [.interrupt 0] 0xFE).pc
      ∧ decode [(offered [.interrupt 0] 0xFE).codeByte 0, 0, 0, 0, 0] = .instr .nop) := by decide

theorem witness_interruptsUnderTheDefaultRegions : (offered [.interrupt 0] 1).allRam := fun _ => rfl

/-- The start with one region around the page 0100H, and HL in that page. -/
def inRegion (kind : RegionKind) (l : Nat) : State :=
  { start with regs := { zero with h := 0x01, l := BitVec.ofNat 8 l }, regions := [⟨0x0100, 0x01FF, kind⟩] }

theorem witness_storesInRegions : ∀ l ∈ [0x00, 0xFF],
    (inRegion .rom l).kindAt (dstAddr .hl (inRegion .rom l)) = .rom
    ∧ (inRegion .device l).kindAt (dstAddr .hl (inRegion .device l)) = .device
    ∧ (inRegion .absent l).kindAt (dstAddr .hl (inRegion .absent l)) = .absent := by decide

theorem witness_loadsInRegions : ∀ l ∈ [0x00, 0xFF],
    (inRegion .rom l).kindAt (srcAddr .hl (inRegion .rom l)) = .rom
    ∧ (inRegion .device l).kindAt (srcAddr .hl (inRegion .device l)) = .device
    ∧ (inRegion .absent l).kindAt (srcAddr .hl (inRegion .absent l)) = .absent := by decide

/-- No address of the list is `absent`. -/
def noneAbsent (s : State) (l : List Word) : Bool := l.all fun a => s.kindAt a ≠ .absent

theorem witness_wordsAndStackInRegions :
    let s := { inRegion .device 0xFF with regs := { zero with h := 0x01, l := 0xFF, sp := 0x01FF } }
    noneAbsent s (accessedBy (.ldRrSrc .de .hl) s) = true
    ∧ noneAbsent s (accessedBy (.ldDstRr .hl .de) s) = true
    ∧ s.kindAt (srcAddr .hl s) ≠ .absent
    ∧ noneAbsent s (accessedBy (.xchRrSrc .de .hl) s) = true
    ∧ noneAbsent s (accessedBy (.pushGg .de) s) = true ∧ noneAbsent s (accessedBy (.popGg .de) s) = true
    ∧ noneAbsent s (accessedBy (.callMn 0) s) = true ∧ noneAbsent s (accessedBy .ret s) = true := by
  decide

theorem witness_regionsEnds :
    let g : Region := ⟨0x0100, 0x01FF, .rom⟩
    (inRegion .rom 0).regions = g :: [] ∧ (g.first ≤ 0x0100#16 ∧ 0x0100#16 ≤ g.last)
    ∧ (g.first ≤ 0x01FF#16 ∧ 0x01FF#16 ≤ g.last) ∧ ¬ (g.first ≤ 0x00FF#16 ∧ 0x00FF#16 ≤ g.last)
    ∧ ¬ (g.first ≤ 0x0200#16 ∧ 0x0200#16 ≤ g.last) ∧ start.regions = [] := by decide

theorem witness_storedByteIsReadBack :
    let s := withA 0x5A 0
    s.Inv ∧ exec (.ldDstR .spDec .a) s = .next { s with
      regs := { s.regs with sp := 0xFFFF }, pc := 0x8002, psw := pswOfByte 0x80, mem := [(0, 0x5A)] }
    ∧ srcAddr .incSp { s with regs := { s.regs with sp := 0xFFFF } } = dstAddr .spDec s :=
  ⟨⟨rfl, rfl⟩, rfl, rfl⟩

/-- `LD (IX),A` whose address is that of the next instruction, and A the byte of SET CF. -/
def modifying : State := { start with regs := { zero with a := 0x05, ix := 0x8002 } }

/-- The state after it. -/
def modified : State :=
  { modifying with pc := 0x8002, psw := pswOfByte 0x80, mem := [(0x8002, 0x05)] }

theorem witness_storedByteIsFetched :
    exec (.ldDstR .ix .a) modifying = .next modified ∧ modified.haltAddress ≠ some modified.pc
    ∧ modified.offers = [] ∧ Instr.setCf.wellFormed = true
    ∧ ∀ k, k < (encode .setCf).length → (encode .setCf)[k]? = some
      (if modified.pc + BitVec.ofNat 16 k = dstAddr .ix modifying then modifying.get8 .a
        else modifying.byteAt (modified.pc + BitVec.ofNat 16 k)) :=
  ⟨rfl, by decide, by decide, by decide, by decide⟩

theorem witness_storedByteUnderTheDefaultRegions :
    (withA 0x5A 0).allRam ∧ modifying.allRam ∧ modifying.Inv :=
  ⟨fun _ => rfl, fun _ => rfl, rfl, rfl⟩

end Sys2Proof.Tests
end

section
/-! PROOFS. O11, O14: what every instruction keeps of the run (its parameters, its record, its
counter) and of the flags, in one case split over the instructions, and from it what every step
keeps. `Follows x s r` is the common statement; each shared operation has it said once. -/

namespace Sys2Proof.Machine

/-! ## Later states of one boundary -/

/-- t comes after s with no boundary between them: the parameters of the run (00_scope.md R9) and the
offers stand, the record of device accesses and the number of drawn values only grow. -/
structure Later (s t : State) : Prop where
  parameters : sameParameters s t
  schedule : t.schedule = s.schedule
  deviceLog : s.deviceLog <:+ t.deviceLog
  draws : s.draws ≤ t.draws

theorem Later.trans {s t u : State} (h : Later s t) (h' : Later t u) : Later s u where
  parameters := by
    obtain ⟨hr, hh, hl⟩ := h.parameters
    obtain ⟨hr', hh', hl'⟩ := h'.parameters
    exact ⟨hr'.trans hr, hh'.trans hh, hl'.trans hl⟩
  schedule := h'.schedule.trans h.schedule
  deviceLog := h.deviceLog.trans h'.deviceLog
  draws := h.draws.trans h'.draws

/-- Registers, PC, flags and memory may change at will, and n values may be drawn. -/
theorem Later.written (s : State) (regs : Regs) (pc : Word) (psw : Psw) (mem : Memory) (n : Nat) :
    Later s { s with regs := regs, pc := pc, psw := psw, mem := mem, draws := s.draws + n } :=
  ⟨⟨rfl, rfl, rfl⟩, rfl, List.suffix_rfl, Nat.le_add_right _ _⟩

/-- t comes after s, and no flag has changed. -/
structure Quiet (s t : State) : Prop extends Later s t where
  psw : t.psw = s.psw

theorem Quiet.trans {s t u : State} (h : Quiet s t) (h' : Quiet t u) : Quiet s u :=
  ⟨h.toLater.trans h'.toLater, h'.psw.trans h.psw⟩

/-- Registers and PC may change at will, and n values may be drawn. -/
theorem Quiet.moved (s : State) (regs : Regs) (pc : Word) (n : Nat) :
    Quiet s { s with regs := regs, pc := pc, draws := s.draws + n } :=
  ⟨.written s regs pc s.psw s.mem n, rfl⟩

theorem Quiet.refl (s : State) : Quiet s s := .moved s s.regs s.pc 0

theorem Quiet.put8 (s : State) (r : Reg8) (v : Byte) : Quiet s (s.put8 r v) := .moved s _ _ 0

theorem Quiet.put16 (s : State) (rr : Reg16) (v : Word) : Quiet s (s.put16 rr v) := .moved s _ _ 0

theorem Quiet.putSp (s : State) (v : Word) : Quiet s (s.putSp v) := .moved s _ _ 0

theorem Quiet.putPc (s : State) (v : Word) : Quiet s (s.putPc v) := .moved s _ _ 0

theorem Quiet.advance (s : State) (len : Nat) : Quiet s (s.advance len) := .moved s _ _ 0

theorem Quiet.drew (s : State) (n : Nat) : Quiet s (s.drew n) := .moved s _ _ n

theorem Quiet.srcBegin (m : Src) (s : State) : Quiet s (srcBegin m s) := by
  cases m with
  | incSp => exact .putSp s _
  | _ => exact .refl s

theorem Quiet.dstEnd (m : Dst) (s : State) : Quiet s (dstEnd m s) := by
  cases m with
  | spDec => exact .putSp s _
  | _ => exact .refl s

theorem Quiet.aluKeep8 (op : AluOp) (r : Reg8) (v : Byte) (s : State) :
    Quiet s (aluKeep8 op r v s) := by
  unfold Machine.aluKeep8
  split
  · exact .refl s
  · exact .put8 s r v

theorem Quiet.aluKeep16 (op : AluOp) (rr : Reg16) (v : Word) (s : State) :
    Quiet s (aluKeep16 op rr v s) := by
  unfold Machine.aluKeep16
  split
  · exact .refl s
  · exact .put16 s rr v

theorem Loaded.quiet {a : Word} {s t : State} {v : Byte} (h : Loaded a s v t) : Quiet s t :=
  ⟨⟨⟨h.regions, h.haltAddress, h.launch⟩, h.schedule, h.deviceLog, h.draws.ge⟩, h.psw⟩

theorem Stored.quiet {a : Word} {s t : State} {v : Byte} (h : Stored a v s t) : Quiet s t :=
  ⟨⟨⟨h.regions, h.haltAddress, h.launch⟩, h.schedule, h.deviceLog, h.draws.ge⟩, h.psw⟩

/-! ## Flag rows -/

@[simp] theorem Column.holds_keep (old new : Bool) : Column.keep.holds old new ↔ new = old := .rfl
@[simp] theorem Column.holds_one (old new : Bool) : Column.one.holds old new ↔ new = true := .rfl
@[simp] theorem Column.holds_zero (old new : Bool) : Column.zero.holds old new ↔ new = false := .rfl
@[simp] theorem Column.holds_new (old new : Bool) : Column.new.holds old new ↔ True := .rfl

@[simp] theorem FlagRow.holds_row (j z c h s v : Column) (p q : Psw) :
    (row j z c h s v).holds p q ↔ j.holds p.jf q.jf ∧ z.holds p.zf q.zf ∧ c.holds p.cf q.cf
      ∧ h.holds p.hf q.hf ∧ s.holds p.sf q.sf ∧ v.holds p.vf q.vf := .rfl

theorem FlagRow.holds_stay (p : Psw) : stay.holds p p := by simp [stay]

/-- The row of an instruction that may leave every flag as it likes. -/
def anyFlags : FlagRow := row .new .new .new .new .new .new

theorem FlagRow.holds_anyFlags (p q : Psw) : anyFlags.holds p q := by simp [anyFlags]

/-- The flag row of an ALU operation (41 R201, 42 R260). -/
def aluRow : AluOp → FlagRow
  | .addc | .add | .subb | .sub | .cmp => anyFlags
  | .and | .xor | .or => row .new .new .keep .keep .keep .keep

theorem aluN_row {n : Nat} (op : AluOp) (a b : BitVec n) (p : Psw) (hf : AddSub n → Bool) :
    (aluRow op).holds p (aluN op a b p hf).2 := by
  cases op with
  | addc | add | subb | sub | cmp => exact FlagRow.holds_anyFlags _ _
  | and | xor | or => simp [aluRow, aluN, logicFlags]

/-! ## Results that follow a state and a flag row -/

/-- Where x is a next state, it comes after s and its flags follow the row r. -/
def Follows (x : Result) (s : State) (r : FlagRow) : Prop :=
  ∀ t, x = .next t → Later s t ∧ r.holds s.psw t.psw

theorem Follows.next {s t : State} {r : FlagRow} (h : Later s t) (hr : r.holds s.psw t.psw) :
    Follows (.next t) s r := by
  rintro _ ⟨⟩
  exact ⟨h, hr⟩

theorem Follows.fault (f : Fault) (s : State) (r : FlagRow) : Follows (.fault f) s r := by
  rintro _ ⟨⟩

/-- Any row may be weakened to the one that says nothing. -/
theorem Follows.anyFlags {x : Result} {s : State} {r : FlagRow} (h : Follows x s r) :
    Follows x s anyFlags := fun t ht => ⟨(h t ht).1, FlagRow.holds_anyFlags _ _⟩

/-- What goes on from a later state, when the row says nothing of the flags. -/
theorem Later.follows {x : Result} {s t : State} (h : Later s t) (hx : Follows x t anyFlags) :
    Follows x s anyFlags :=
  fun u hu => ⟨h.trans (hx u hu).1, FlagRow.holds_anyFlags _ _⟩

/-- What goes on from a later state whose flags are the same. -/
theorem Quiet.follows {x : Result} {s t : State} {r : FlagRow} (h : Quiet s t)
    (hx : Follows x t r) : Follows x s r := fun u hu => by
  obtain ⟨hl, hr⟩ := hx u hu
  exact ⟨h.toLater.trans hl, h.psw ▸ hr⟩

/-- A next state whose flags are the same. -/
theorem Quiet.next {s t : State} (h : Quiet s t) : Follows (.next t) s stay :=
  .next h.toLater (h.psw ▸ FlagRow.holds_stay _)

/-- The usual end of an instruction: the flags written, then PC moved on. -/
theorem Quiet.flagged {s t : State} {p : Psw} {len : Nat} {r : FlagRow} (h : Quiet s t)
    (hr : r.holds s.psw p) : Follows (.next ((t.putPsw p).advance len)) s r :=
  .next (h.toLater.trans (.written t _ _ _ _ 0)) hr

/-! ## Memory, the stack, handlers -/

section Access
variable {s : State} {r : FlagRow}

theorem loadByte_follows {a : Word} {k : Byte → State → Result}
    (h : ∀ v t, Follows (k v t) t r) : Follows (loadByte a s k) s r := fun u hu => by
  obtain ⟨v, t, ht, hk⟩ := loadByte_next hu
  exact ht.quiet.follows (h v t) u hk

theorem storeByte_follows {a : Word} {v : Byte} {k : State → Result}
    (h : ∀ t, Follows (k t) t r) : Follows (storeByte a v s k) s r := fun u hu => by
  obtain ⟨t, ht, hk⟩ := storeByte_next hu
  exact ht.quiet.follows (h t) u hk

theorem loadWord_follows {a : Word} {k : Word → State → Result}
    (h : ∀ v t, Follows (k v t) t r) : Follows (loadWord a s k) s r :=
  loadByte_follows fun _ _ => loadByte_follows fun _ _ => h _ _

theorem storeWord_follows {a v : Word} {k : State → Result} (h : ∀ t, Follows (k t) t r) :
    Follows (storeWord a v s k) s r :=
  storeByte_follows fun _ => storeByte_follows h

theorem push16_follows {v : Word} {k : State → Result} (h : ∀ t, Follows (k t) t r) :
    Follows (push16 v s k) s r :=
  storeByte_follows fun _ => storeByte_follows fun t => (Quiet.putSp t _).follows (h _)

theorem pop16_follows {k : Word → State → Result} (h : ∀ v t, Follows (k v t) t r) :
    Follows (pop16 s k) s r := by
  unfold pop16
  exact (Quiet.putSp s _).follows (loadByte_follows fun _ _ => loadByte_follows fun _ _ => h _ _)

theorem storeImf_follows {c : Bool} {k : State → Result} (h : ∀ t, Follows (k t) t r) :
    Follows (storeImf c s k) s r :=
  loadByte_follows fun _ _ => storeByte_follows h

theorem withSrcByte_follows {m : Src} {k : Byte → State → Result}
    (h : ∀ v t, Follows (k v t) t r) : Follows (withSrcByte m s k) s r :=
  (Quiet.srcBegin m s).follows (loadByte_follows h)

theorem withSrcWord_follows {m : Src} {k : Word → State → Result}
    (h : ∀ v t, Follows (k v t) t r) : Follows (withSrcWord m s k) s r :=
  (Quiet.srcBegin m s).follows (loadWord_follows h)

theorem toDstByte_follows {m : Dst} {v : Byte} {k : State → Result}
    (h : ∀ t, Follows (k t) t r) : Follows (toDstByte m v s k) s r :=
  storeByte_follows fun t => (Quiet.dstEnd m t).follows (h _)

theorem toDstWord_follows {m : Dst} {v : Word} {k : State → Result}
    (h : ∀ t, Follows (k t) t r) : Follows (toDstWord m v s k) s r :=
  storeWord_follows fun t => (Quiet.dstEnd m t).follows (h _)

theorem updateSrcByte_follows {m : Src} {f : Byte → Byte} {k : Byte → State → Result}
    (h : ∀ v t, Follows (k v t) t r) : Follows (updateSrcByte m f s k) s r :=
  (Quiet.srcBegin m s).follows (loadByte_follows fun v _ => storeByte_follows (h v))

theorem exchangeSrcWord_follows {m : Src} {f : State → Word} {k : Word → State → Result}
    (h : ∀ v t, Follows (k v t) t r) : Follows (exchangeSrcWord m f s k) s r :=
  (Quiet.srcBegin m s).follows (loadWord_follows fun v _ => storeWord_follows (h v))

end Access

theorem enterHandler_follows (ra vector : Word) (s : State) :
    Follows (enterHandler ra vector s) s stay := by
  unfold enterHandler loadImf
  refine loadByte_follows fun _ t => (Quiet.drew t 1).follows ?_
  refine storeByte_follows fun _ => storeByte_follows fun _ => storeByte_follows fun t => ?_
  refine (Quiet.putSp t _).follows (storeImf_follows fun _ => loadWord_follows fun v t => ?_)
  exact (Quiet.putPc t v).next

theorem returnFromHandler_follows (s : State) : Follows (returnFromHandler s) s anyFlags :=
  loadWord_follows fun ra _ => loadByte_follows fun _ t =>
    (Later.written t _ _ _ _ 0).follows <| storeImf_follows fun t => (Quiet.putPc t ra).next.anyFlags

/-! ## The shared ends of the instructions -/

section Shared
variable (s : State) (r g : Reg8) (rr : Reg16) (m : Src) (len : Nat)

theorem undefinedEncoding_follows (bytes : List Byte) (columns : FlagRow) :
    Follows (undefinedEncoding bytes s) s columns := .fault _ s columns

theorem aluReg8_follows (op : AluOp) (b : Byte) :
    Follows (aluReg8 op r b len s) s (aluRow op) :=
  (Quiet.aluKeep8 op r _ s).flagged (aluN_row op _ _ _ _)

theorem aluReg16_follows (op : AluOp) (b : Word) :
    Follows (aluReg16 op rr b len s) s (aluRow op) :=
  .next ((Quiet.aluKeep16 op rr _ s).toLater.trans (.written _ _ _ _ _ _)) (aluN_row op _ _ _ _)

theorem aluSrc8_follows (op : AluOp) (n : Byte) :
    Follows (aluSrc8 op m n len s) s (aluRow op) := by
  unfold aluSrc8
  split
  · exact withSrcByte_follows fun _ t => (Quiet.refl t).flagged (aluN_row op _ _ _ _)
  · exact updateSrcByte_follows fun _ t => (Quiet.refl t).flagged (aluN_row op _ _ _ _)

theorem withSrcByte_aluReg8_follows (op : AluOp) :
    Follows (withSrcByte m s fun v s => aluReg8 op r v len s) s (aluRow op) :=
  withSrcByte_follows fun v t => aluReg8_follows t r len op v

theorem withSrcWord_aluReg16_follows (op : AluOp) :
    Follows (withSrcWord m s fun v s => aluReg16 op rr v len s) s (aluRow op) :=
  withSrcWord_follows fun v t => aluReg16_follows t rr len op v

theorem loadedReg8_follows (v : Byte) :
    Follows (loadedReg8 r v len s) s (row .one .new .keep .keep .keep .keep) :=
  (Quiet.put8 s r v).flagged (by simp)

theorem loadedReg16_follows (v : Word) :
    Follows (loadedReg16 rr v len s) s (row .one .keep .keep .keep .keep .keep) :=
  (Quiet.put16 s rr v).flagged (by simp)

theorem transferred_follows :
    Follows (transferred len s) s (row .one .keep .keep .keep .keep .keep) :=
  (Quiet.refl s).flagged (by simp)

theorem pushReg16_follows : Follows (pushReg16 rr len s) s stay :=
  push16_follows fun t => (Quiet.advance t len).next

theorem popReg16_follows : Follows (popReg16 rr len s) s stay :=
  pop16_follows fun v t => ((Quiet.put16 t rr v).trans (.advance _ len)).next

theorem callTo_follows (target : Word) : Follows (callTo target len s) s stay :=
  push16_follows fun t => (Quiet.putPc t target).next

theorem jumpRelative_follows (taken : Bool) (base d : Word) :
    Follows (jumpRelative taken base d len s) s (row .one .keep .keep .keep .keep .keep) := by
  have h : Quiet s (if taken then s.putPc (s.pc + base + d) else s.advance len) := by
    split
    · exact .putPc s _
    · exact .advance s len
  exact .next (h.toLater.trans (.written _ _ _ _ _ 0)) (by simp [h.psw])

theorem bitTested_follows (old : Bool) :
    Follows (bitTested old len s) s (row .new .new .keep .keep .keep .keep) :=
  (Quiet.refl s).flagged (by simp)

theorem changeRegBit_follows (f : Byte → BitVec 3 → Byte) (n : BitVec 3) :
    Follows (changeRegBit f g n s) s (row .new .new .keep .keep .keep .keep) :=
  (Quiet.put8 s g _).follows (bitTested_follows _ _ _)

theorem changeSrcBit_follows (f : Byte → BitVec 3 → Byte) (n : BitVec 3) :
    Follows (changeSrcBit f m n len s) s (row .new .new .keep .keep .keep .keep) :=
  updateSrcByte_follows fun _ t => bitTested_follows t len _

theorem carryLoaded_follows (c : Bool) :
    Follows (carryLoaded c len s) s (row .new .keep .new .keep .keep .keep) :=
  (Quiet.refl s).flagged (by simp)

theorem testSrcBit_follows (n : BitVec 3) :
    Follows (testSrcBit m n len s) s (row .new .keep .new .keep .keep .keep) :=
  withSrcByte_follows fun _ t => carryLoaded_follows t len _

theorem putSrcBit_follows (n : BitVec 3) :
    Follows (putSrcBit m n s) s (row .one .keep .keep .keep .keep .keep) :=
  updateSrcByte_follows fun _ t => transferred_follows t _

theorem stepReg8_follows (f : Byte → Byte × Bool × Bool) :
    Follows (stepReg8 f r s) s (row .new .new .keep .keep .keep .keep) :=
  (Quiet.put8 s r _).flagged (by simp)

theorem stepReg16_follows (f : Word → Word × Bool × Bool) :
    Follows (stepReg16 f rr s) s (row .new .new .keep .keep .keep .keep) :=
  (Quiet.put16 s rr _).flagged (by simp)

theorem stepSrc_follows (f : Byte → Byte × Bool × Bool) :
    Follows (stepSrc f m s) s (row .new .new .keep .keep .keep .keep) :=
  updateSrcByte_follows fun _ t => (Quiet.refl t).flagged (by simp)

theorem adjusted_follows (x : Adjusted) :
    Follows (adjusted g x s) s (row .new .new .new .new .keep .keep) :=
  .next (.written s _ _ _ _ x.draws) (by simp)

theorem shiftedReg8_follows (out : Byte × Bool) :
    Follows (shiftedReg8 g out s) s (row .new .new .new .keep .keep .keep) :=
  (Quiet.put8 s g _).flagged (by simp)

theorem shiftedReg16_follows (out : Word × Bool) (vf : Bool) :
    Follows (shiftedReg16 rr out vf s) s (row .new .new .new .keep .new .new) :=
  (Quiet.put16 s rr _).flagged (by simp)

theorem execPushPsw_follows : Follows (execPushPsw s) s stay := by
  unfold execPushPsw
  refine (Quiet.drew s 1).follows (storeByte_follows fun t => ?_)
  exact ((Quiet.putSp t _).trans (.advance _ 2)).next

theorem execPopPsw_follows : Follows (execPopPsw s) s anyFlags := by
  unfold execPopPsw
  refine (Quiet.putSp s _).follows (loadByte_follows fun _ t => ?_)
  exact (Quiet.refl t).flagged (FlagRow.holds_anyFlags _ _)

theorem callIncSp_follows : Follows (callIncSp s) s stay := by
  unfold callIncSp
  refine (Quiet.putSp s _).follows (storeByte_follows fun _ => loadByte_follows fun _ _ => ?_)
  refine storeByte_follows fun _ => loadByte_follows fun _ t => ?_
  exact ((Quiet.putSp t _).trans (.putPc _ _)).next

theorem execCallSrc_follows : Follows (execCallSrc m s) s stay := by
  unfold execCallSrc
  split
  · exact callIncSp_follows s
  · exact withSrcWord_follows fun v t => callTo_follows t _ v

end Shared

/-! ## Every instruction, every step -/

/-- Every instruction keeps the run and follows its flag row (10_state.md R38). -/
theorem exec_follows (i : Instr) (s : State) : Follows (exec i s) s (flagRow i) := by
  unfold exec
  cases i with
  | prefixReg _ _ | prefixSrcX _ _ | prefixSrcVw _ _ | prefixSrcDe _ | prefixSrcHl _
  | prefixSrcIx _ | prefixSrcIy _ | prefixSrcIncSp _ | prefixSrcHlC _ | prefixSrcIxD _ _
  | prefixSrcIyD _ _ | prefixSrcSpD _ _ | prefixSrcHlD _ _ | prefixSrcPcA _ | prefixDstX _ _
  | prefixDstVw _ _ | prefixDstDe _ | prefixDstHl _ | prefixDstIx _ | prefixDstIy _
  | prefixDstSpDec _ | prefixDstHlC _ | prefixDstIxD _ _ | prefixDstIyD _ _ | prefixDstSpD _ _
  | prefixDstHlD _ _ => exact undefinedEncoding_follows s _ _
  -- the ALU
  | addcAN _ | addAN _ | subbAN _ | subAN _ | andAN _ | xorAN _ | orAN _ | cmpAN _ | addcRG _ _
  | addRG _ _ | subbRG _ _ | subRG _ _ | andRG _ _ | xorRG _ _ | orRG _ _ | cmpRG _ _ | addcGN _ _
  | addGN _ _ | subbGN _ _ | subGN _ _ | andGN _ _ | xorGN _ _ | orGN _ _ | cmpGN _ _ =>
    exact aluReg8_follows s _ _ _ _
  | addcGgMn _ _ | addGgMn _ _ | subbGgMn _ _ | subGgMn _ _ | andGgMn _ _ | xorGgMn _ _
  | orGgMn _ _ | cmpGgMn _ _ | addcRrGg _ _ | addRrGg _ _ | subbRrGg _ _ | subRrGg _ _
  | andRrGg _ _ | xorRrGg _ _ | orRrGg _ _ | cmpRrGg _ _ => exact aluReg16_follows s _ _ _ _
  | addcRSrc _ _ | addRSrc _ _ | subbRSrc _ _ | subRSrc _ _ | andRSrc _ _ | xorRSrc _ _
  | orRSrc _ _ | cmpRSrc _ _ => exact withSrcByte_aluReg8_follows s _ _ _ _
  | addcRrSrc _ _ | addRrSrc _ _ | subbRrSrc _ _ | subRrSrc _ _ | andRrSrc _ _ | xorRrSrc _ _
  | orRrSrc _ _ | cmpRrSrc _ _ => exact withSrcWord_aluReg16_follows s _ _ _ _
  | cmpXN _ _ | addcSrcN _ _ | addSrcN _ _ | subbSrcN _ _ | subSrcN _ _ | andSrcN _ _ | xorSrcN _ _
  | orSrcN _ _ | cmpSrcN _ _ => exact aluSrc8_follows s _ _ _ _
  -- loads and exchanges
  | ldAR _ | ldRA _ | ldRG _ _ => exact loadedReg8_follows s _ _ _
  | xchRG r g => exact (Quiet.put8 s g _).follows (loadedReg8_follows _ _ _ _)
  | ldAX _ | ldAHl => exact loadByte_follows fun _ t => loadedReg8_follows t _ _ _
  | ldRSrc _ _ => exact withSrcByte_follows fun _ t => loadedReg8_follows t _ _ _
  | xchRSrc _ _ => exact updateSrcByte_follows fun _ t => loadedReg8_follows t _ _ _
  | ldRrMn _ _ | ldRrGg _ _ | negCs _ => exact loadedReg16_follows s _ _ _
  | xchRrGg rr gg => exact (Quiet.put16 s gg _).follows (loadedReg16_follows _ _ _ _)
  | ldRrSrc _ _ => exact withSrcWord_follows fun _ t => loadedReg16_follows t _ _ _
  | xchRrSrc _ _ => exact exchangeSrcWord_follows fun _ t => loadedReg16_follows t _ _ _
  -- stores and transfers that write JF alone
  | ldXN _ _ | ldHlN _ | ldXA _ | ldHlA => exact storeByte_follows fun t => transferred_follows t _
  | ldwXMn _ _ | ldwHlMn _ => exact storeWord_follows fun t => transferred_follows t _
  | ldDstR _ _ | ldDstN _ _ => exact toDstByte_follows fun t => transferred_follows t _
  | ldDstRr _ _ => exact toDstWord_follows fun t => transferred_follows t _
  | ldRN r n => exact (Quiet.put8 s r n).follows (transferred_follows _ _)
  | ldSpPlusD _ | ldSpMinusD _ => exact (Quiet.putSp s _).follows (transferred_follows _ _)
  | ldGBCf g _ | swap g => exact (Quiet.put8 s g _).follows (transferred_follows _ _)
  | rold _ | rord _ =>
    exact updateSrcByte_follows fun _ t => (Quiet.put8 t .a _).follows (transferred_follows _ _)
  -- the stack and PSW
  | pushRr _ | pushGg _ => exact pushReg16_follows s _ _
  | popRr _ | popGg _ => exact popReg16_follows s _ _
  | pushPsw => exact execPushPsw_follows s
  | popPsw => exact execPopPsw_follows s
  | ldPswN _ => exact (Quiet.refl s).flagged (FlagRow.holds_anyFlags _ _)
  -- increment, adjust, multiply, divide, shift
  | incR _ | decR _ => exact stepReg8_follows s _ _
  | incRr _ | decRr _ => exact stepReg16_follows s _ _
  | incSrc _ | decSrc _ => exact stepSrc_follows s _ _
  | daa _ | das _ => exact adjusted_follows s _ _
  | mul _ => exact (Quiet.put16 s _ _).flagged (by simp [flagRow])
  | div _ => exact .next (.written s _ _ _ _ _) (by simp [flagRow])
  | shlc _ | shrc _ | rolc _ | rorc _ => exact shiftedReg8_follows s _ _
  | shlca _ => exact shiftedReg16_follows s _ _ _
  | shrca _ => exact (Quiet.put16 s _ _).flagged (by simp [flagRow])
  -- bits and CF
  | setGB _ _ | clrGB _ _ | cplGB _ _ => exact changeRegBit_follows s _ _ _
  | setXB _ _ | clrXB _ _ | ei | di | setSrcB _ _ | clrSrcB _ _ | cplSrcB _ _ | setSrcA _
  | clrSrcA _ | cplSrcA _ => exact changeSrcBit_follows s _ _ _ _
  | cplCf | xorCfGB _ _ | ldCfGB _ _ => exact carryLoaded_follows s _ _
  | clrCf | setCf => exact (Quiet.refl s).flagged (by simp [flagRow])
  | xorCfSrcB _ _ => exact withSrcByte_follows fun _ t => carryLoaded_follows t _ _
  | ldCfXB _ _ | ldCfSrcB _ _ | ldCfSrcA _ => exact testSrcBit_follows s _ _ _
  | ldSrcBCf _ _ | ldSrcACf _ => exact putSrcBit_follows s _ _
  -- jumps, calls, returns
  | nop => exact (Quiet.advance s 1).next
  | jpMn _ | jpGg _ => exact (Quiet.putPc s _).next
  | jpSrc _ => exact withSrcWord_follows fun v t => (Quiet.putPc t v).next
  | jrsT _ | jrsF _ | jrZ _ | jrNz _ | jrCs _ | jrCc _ | jrLe _ | jrGt _ | jrT _ | jrF _ | jr _
  | jrM _ | jrP _ | jrSlt _ | jrSge _ | jrSle _ | jrSgt _ | jrVs _ | jrVc _ =>
    exact jumpRelative_follows s _ _ _ _
  | callMn _ | callGg _ => exact callTo_follows s _ _
  | callv _ => exact loadWord_follows fun v t => callTo_follows t _ v
  | callSrc m => exact execCallSrc_follows s m
  | ret => exact pop16_follows fun v t => (Quiet.putPc t v).next
  | reti | retn => exact returnFromHandler_follows s
  | swi => exact enterHandler_follows _ _ s

/-- The bytes read before an instruction runs change no more than its accesses do. -/
theorem fetchFrom_follows {k : Instr → State → Result} (hk : ∀ i t, Follows (k i t) t anyFlags)
    (fuel : Nat) (a : Word) (read : List Byte) (s : State) :
    Follows (fetchFrom fuel a read s k) s anyFlags := by
  induction fuel generalizing a read s with
  | zero => exact .fault _ s _
  | succ fuel ih =>
    refine loadByte_follows fun b t => ?_
    split
    · exact hk _ t
    · exact ih _ _ t
    · exact .fault _ t _

/-- An accepted event keeps the run too, a reset among them. -/
theorem acceptEvent_follows {offers : List HostEvent} {s : State} {k : State → Result}
    (hk : ∀ t, Follows (k t) t anyFlags) : Follows (acceptEvent offers s k) s anyFlags := by
  unfold acceptEvent
  split
  · exact .next (.written s _ _ _ _ 0) (FlagRow.holds_anyFlags _ _)
  split
  · exact (enterHandler_follows _ _ s).anyFlags
  split
  · exact hk s
  refine loadByte_follows fun v t => ?_
  dsimp only
  split
  · exact (enterHandler_follows _ _ t).anyFlags
  · exact hk t

/-- A step keeps the run from the state past its offers on. -/
theorem step_follows (s : State) : Follows (step s) s.pastOffers anyFlags := by
  unfold step
  split
  · rintro _ ⟨⟩
  · exact acceptEvent_follows fun t =>
      fetchFrom_follows (fun i u => (exec_follows i u).anyFlags) 5 t.pc [] t

end Sys2Proof.Machine

open Sys2Proof Sys2Proof.Machine

/-- Settles O11: a step is later than the state past its offers (`step_follows`). -/
theorem stepKeepsParametersAndHistory : Obligations.StepKeepsParametersAndHistory := by
  intro s t h
  obtain ⟨hlater, -⟩ := step_follows s t h
  exact ⟨hlater.parameters, hlater.schedule, hlater.deviceLog, hlater.draws⟩

/-- Settles O14, by cases over the instructions (`exec_follows`). -/
theorem flagsFollowTheFlagColumns : Obligations.FlagsFollowTheFlagColumns :=
  fun i s t h => (exec_follows i s t h).2

end

section
/-! PROOFS. O29, O31: addition and subtraction. The flags of `addN` and `subN` over the integers
are proved once for every width; the register forms and the memory forms
are uses of them. -/

namespace Sys2Proof.Machine

/-! ## addN and subN over the integers -/

theorem beq_zero_eq_decide {n : Nat} (x : BitVec n) : (x == 0) = decide (x.toNat = 0) := by
  rw [Bool.eq_iff_iff, beq_iff_eq, decide_eq_true_iff, ← BitVec.toNat_inj]
  rfl

theorem msb_eq_decide_two_mul {n : Nat} (x : BitVec n) : x.msb = decide (2 ^ n ≤ 2 * x.toNat) := by
  rw [BitVec.msb_eq_toInt, decide_eq_decide, BitVec.toInt_neg_iff]

/-- A sum of two numbers below M and a carry, modulo M. -/
theorem sum_mod (M a b : Nat) (c : Bool) (ha : a < M) (hb : b < M) :
    (a + b + c.toNat) % M
      = if M ≤ a + b + c.toNat then a + b + c.toNat - M else a + b + c.toNat := by
  have hc := c.toNat_le
  split
  · rw [Nat.mod_eq_sub_mod ‹_›, Nat.mod_eq_of_lt (by omega)]
  · exact Nat.mod_eq_of_lt (by omega)

/-- A difference of two numbers below M and a borrow, modulo M. -/
theorem difference_emod (M a b : Nat) (c : Bool) (ha : a < M) (hb : b < M) :
    ((a : Int) - b - c.toNat) % M
      = if a < b + c.toNat then (a : Int) - b - c.toNat + M else (a : Int) - b - c.toNat := by
  have hc := c.toNat_le
  split
  · rw [← Int.add_emod_right, Int.emod_eq_of_lt (by omega) (by omega)]
  · exact Int.emod_eq_of_lt (by omega) (by omega)

theorem addN_toNat {n : Nat} (a b : BitVec n) (c : Bool) :
    (addN a b c).res.toNat = (a.toNat + b.toNat + c.toNat) % 2 ^ n := BitVec.toNat_ofNat _ _

theorem subN_res {n : Nat} (a b : BitVec n) (c : Bool) :
    (subN a b c).res = BitVec.ofInt n (a.toNat - b.toNat - c.toNat) := by
  simp only [subN, Int.sub_eq_add_neg, BitVec.ofInt_add, BitVec.ofInt_neg, BitVec.ofInt_natCast,
    BitVec.ofNat_toNat, BitVec.setWidth_eq, BitVec.sub_eq_add_neg]

theorem subN_toNat {n : Nat} (a b : BitVec n) (c : Bool) :
    ((subN a b c).res.toNat : Int) = ((a.toNat : Int) - b.toNat - c.toNat) % 2 ^ n := by
  have hpos : (0 : Int) < 2 ^ n := by positivity
  rw [subN_res, BitVec.toNat_ofInt, Int.toNat_of_nonneg]
  · simp
  · simpa using Int.emod_nonneg _ hpos.ne'

/-- The carry is added into one sum: two's complement overflow counts it (41 R200; log 17). -/
theorem addN_ovf {n : Nat} (hn : 0 < n) (a b : BitVec n) (c : Bool) :
    (addN a b c).ovf = decide (2 * (a.toInt + b.toInt + c.toNat) < -2 ^ n
      ∨ 2 ^ n ≤ 2 * (a.toInt + b.toInt + c.toNat)) := by
  have hres := addN_toNat a b c
  rw [sum_mod _ _ _ c a.isLt b.isLt] at hres
  have heven := Nat.two_pow_pred_mul_two hn
  have hcast : ((2 ^ n : Nat) : Int) = 2 ^ n := Nat.cast_pow 2 n
  have ha := a.isLt
  have hb := b.isLt
  have hc := c.toNat_le
  change (a.msb == b.msb && (addN a b c).res.msb != a.msb) = _
  rw [Bool.eq_iff_iff, ← hcast]
  simp only [msb_eq_decide_two_mul, BitVec.toInt_eq_toNat_cond, Bool.and_eq_true, beq_iff_eq,
    bne_iff_ne, ne_eq, decide_eq_decide, decide_eq_true_eq]
  generalize 2 ^ n = N at *
  split_ifs at * <;> omega

/-- The borrow is taken in one difference: two's complement overflow counts it (41 R200; log 17). -/
theorem subN_ovf {n : Nat} (hn : 0 < n) (a b : BitVec n) (c : Bool) :
    (subN a b c).ovf = decide (2 * (a.toInt - b.toInt - c.toNat) < -2 ^ n
      ∨ 2 ^ n ≤ 2 * (a.toInt - b.toInt - c.toNat)) := by
  have heven := Nat.two_pow_pred_mul_two hn
  have hcast : ((2 ^ n : Nat) : Int) = 2 ^ n := Nat.cast_pow 2 n
  have hres := subN_toNat a b c
  rw [← hcast, difference_emod _ _ _ c a.isLt b.isLt] at hres
  have ha := a.isLt
  have hb := b.isLt
  have hc := c.toNat_le
  change (a.msb != b.msb && (subN a b c).res.msb != a.msb) = _
  rw [Bool.eq_iff_iff, ← hcast]
  simp only [msb_eq_decide_two_mul, BitVec.toInt_eq_toNat_cond, Bool.and_eq_true, bne_iff_ne, ne_eq,
    decide_eq_decide, decide_eq_true_eq]
  generalize 2 ^ n = N at *
  split_ifs at * <;> omega

/-- The flags p are those of the addition x, JF and HF apart. -/
def AddSub.agrees {n : Nat} (x : AddSub n) (p : Psw) : Prop :=
  p.cf = x.carry ∧ p.zf = x.zero ∧ p.sf = x.sign ∧ p.vf = x.ovf

theorem addN_sumFlags {n : Nat} (hn : 0 < n) (a b : BitVec n) (c : Bool) {p : Psw}
    (h : (addN a b c).agrees p) : SumFlags a b c p := by
  obtain ⟨hcf, hzf, hsf, hvf⟩ := h
  have hzero : (addN a b c).zero = ((addN a b c).res == 0) := rfl
  have hsign : (addN a b c).sign = (addN a b c).res.msb := rfl
  refine ⟨hcf, ?_, ?_, hvf.trans (addN_ovf hn a b c)⟩
  · rw [hzf, hzero, beq_zero_eq_decide, addN_toNat]
  · rw [hsf, hsign, msb_eq_decide_two_mul, addN_toNat]

theorem subN_differenceFlags {n : Nat} (hn : 0 < n) (a b : BitVec n) (c : Bool) {p : Psw}
    (h : (subN a b c).agrees p) : DifferenceFlags a b c p := by
  obtain ⟨hcf, hzf, hsf, hvf⟩ := h
  have hzero : (subN a b c).zero = ((subN a b c).res == 0) := rfl
  have hsign : (subN a b c).sign = (subN a b c).res.msb := rfl
  refine ⟨hcf, ?_, ?_, hvf.trans (subN_ovf hn a b c)⟩
  · rw [hzf, hzero, beq_zero_eq_decide, ← subN_toNat, decide_eq_decide]
    omega
  · rw [hsf, hsign, msb_eq_decide_two_mul, ← subN_toNat, decide_eq_decide]
    exact_mod_cast Iff.rfl

theorem ariFlags_agrees {n : Nat} (x : AddSub n) (h : Bool) : x.agrees (ariFlags x h) :=
  ⟨rfl, rfl, rfl, rfl⟩

theorem cmpFlags_agrees {n : Nat} (x : AddSub n) (h : Bool) : x.agrees (cmpFlags x h) :=
  ⟨rfl, rfl, rfl, rfl⟩

/-! ## The 8-bit ALU on a register and a byte -/

section Byte
variable (s : State) (r : Reg8) (b : Byte) (len : Nat)

theorem aluReg8_add : adds8 (aluReg8 .add r b len s) s r b false len :=
  ⟨_, rfl, addN_sumFlags (by omega) _ _ _ (ariFlags_agrees _ _), rfl, rfl⟩

theorem aluReg8_addc : adds8 (aluReg8 .addc r b len s) s r b s.psw.cf len :=
  ⟨_, rfl, addN_sumFlags (by omega) _ _ _ (ariFlags_agrees _ _), rfl, rfl⟩

theorem aluReg8_sub : subtracts8 (aluReg8 .sub r b len s) s r b false len := by
  unfold subtracts8
  rw [← subN_res]
  exact ⟨_, rfl, subN_differenceFlags (by omega) _ _ _ (ariFlags_agrees _ _), rfl, rfl⟩

theorem aluReg8_subb : subtracts8 (aluReg8 .subb r b len s) s r b s.psw.cf len := by
  unfold subtracts8
  rw [← subN_res]
  exact ⟨_, rfl, subN_differenceFlags (by omega) _ _ _ (ariFlags_agrees _ _), rfl, rfl⟩

theorem aluReg8_cmp : compares8 (aluReg8 .cmp r b len s) s (s.get8 r) b len :=
  ⟨_, rfl, subN_differenceFlags (by omega) _ _ _ (cmpFlags_agrees _ _), rfl, rfl⟩

end Byte

/-! ## The 16-bit ALU on a register and a word -/

section Word
variable (s : State) (rr : Reg16) (b : Word) (len : Nat)

theorem aluReg16_add : adds16 (aluReg16 .add rr b len s) s rr b false len :=
  ⟨_, rfl, addN_sumFlags (by omega) _ _ _ (ariFlags_agrees _ _), rfl⟩

theorem aluReg16_addc : adds16 (aluReg16 .addc rr b len s) s rr b s.psw.cf len :=
  ⟨_, rfl, addN_sumFlags (by omega) _ _ _ (ariFlags_agrees _ _), rfl⟩

theorem aluReg16_sub : subtracts16 (aluReg16 .sub rr b len s) s rr b false len := by
  unfold subtracts16
  rw [← subN_res]
  exact ⟨_, rfl, subN_differenceFlags (by omega) _ _ _ (ariFlags_agrees _ _), rfl⟩

theorem aluReg16_subb : subtracts16 (aluReg16 .subb rr b len s) s rr b s.psw.cf len := by
  unfold subtracts16
  rw [← subN_res]
  exact ⟨_, rfl, subN_differenceFlags (by omega) _ _ _ (ariFlags_agrees _ _), rfl⟩

theorem aluReg16_cmp : compares16 (aluReg16 .cmp rr b len s) s rr b len :=
  ⟨_, rfl, subN_differenceFlags (by omega) _ _ _ (cmpFlags_agrees _ _), rfl⟩

end Word

/-- Under the default regions the word of a source operand is the word in memory. -/
theorem withSrcWord_ram {s : State} (h : s.allRam) (m : Src) (k : Word → State → Result) :
    withSrcWord m s k = k (s.wordAt (srcAddr m s)) (srcBegin m s) := by
  have hbegin : ∀ a, (srcBegin m s).kindAt a = .ram := fun a => (srcBegin_kindAt m s a).trans (h a)
  unfold withSrcWord loadWord
  rw [loadByte_ram (hbegin _), loadByte_ram (hbegin _), srcBegin_byteAt, srcBegin_byteAt]
  rfl

end Sys2Proof.Machine

open Sys2Proof Sys2Proof.Machine

/-- Settles O29: every form is `aluReg8` on its register and its byte. -/
theorem byteArithmeticOnRegisters : Obligations.ByteArithmeticOnRegisters := fun s n r g =>
  ⟨aluReg8_add s .a n 2, aluReg8_addc s .a n 2, aluReg8_sub s .a n 2, aluReg8_subb s .a n 2,
    aluReg8_cmp s .a n 2, aluReg8_add s g n 3, aluReg8_addc s g n 3, aluReg8_sub s g n 3,
    aluReg8_subb s g n 3, aluReg8_cmp s g n 3, aluReg8_add s r _ 2, aluReg8_addc s r _ 2,
    aluReg8_sub s r _ 2, aluReg8_subb s r _ 2, aluReg8_cmp s r _ 2⟩

/-- Settles O31: every form is `aluReg16` on its register and its word, the memory forms in the state
after the address is formed, whose flags are as before. -/
theorem wordArithmetic : Obligations.WordArithmetic := by
  refine ⟨fun s rr gg mn => ?_, fun s rr m h => ?_⟩
  · exact ⟨aluReg16_add s gg mn 4, aluReg16_addc s gg mn 4, aluReg16_sub s gg mn 4,
      aluReg16_subb s gg mn 4, aluReg16_cmp s gg mn 4, aluReg16_add s rr _ 2, aluReg16_addc s rr _ 2,
      aluReg16_sub s rr _ 2, aluReg16_subb s rr _ 2, aluReg16_cmp s rr _ 2⟩
  · have hexec (op : AluOp) : withSrcWord m s (fun v s => aluReg16 op rr v (srcLen m 0) s)
        = aluReg16 op rr (s.wordAt (srcAddr m s)) (srcLen m 0) (srcBegin m s) := withSrcWord_ram h m _
    have hadd : exec (.addRrSrc rr m) s = _ := hexec .add
    have haddc : exec (.addcRrSrc rr m) s = _ := hexec .addc
    have hsub : exec (.subRrSrc rr m) s = _ := hexec .sub
    have hsubb : exec (.subbRrSrc rr m) s = _ := hexec .subb
    have hcmp : exec (.cmpRrSrc rr m) s = _ := hexec .cmp
    rw [hadd, haddc, hsub, hsubb, hcmp, ← srcBegin_psw m s]
    exact ⟨aluReg16_add _ _ _ _, aluReg16_addc _ _ _ _, aluReg16_sub _ _ _ _, aluReg16_subb _ _ _ _,
      aluReg16_cmp _ _ _ _⟩

end

section
/-! PROOFS. O32: the branches after a comparison; O42: the arithmetic shifts of a word. -/

namespace Sys2Proof.Machine

/-! ## What the flags of a comparison say of the two operands -/

section Compared
variable {n : Nat} {a b : BitVec n} {p : Psw}

theorem DifferenceFlags.cf_eq_less (h : DifferenceFlags a b false p) :
    p.cf = decide (a.toNat < b.toNat) := h.borrow

theorem DifferenceFlags.zf_eq_equal (h : DifferenceFlags a b false p) : p.zf = decide (a = b) := by
  have hcast : ((2 ^ n : Nat) : Int) = 2 ^ n := Nat.cast_pow 2 n
  have ha := a.isLt
  have hb := b.isLt
  rw [h.zero, decide_eq_decide, ← hcast, difference_emod _ _ _ false a.isLt b.isLt,
    ← BitVec.toNat_inj, Bool.toNat_false]
  split_ifs <;> omega

/-- The sign of the difference, corrected by overflow, is the signed order (R413). -/
theorem DifferenceFlags.sf_xor_vf_eq_less (hn : 0 < n) (h : DifferenceFlags a b false p) :
    (p.sf ^^ p.vf) = decide (a.toInt < b.toInt) := by
  have heven := Nat.two_pow_pred_mul_two hn
  have hcast : ((2 ^ n : Nat) : Int) = 2 ^ n := Nat.cast_pow 2 n
  have ha := a.isLt
  have hb := b.isLt
  rw [h.sign, h.overflow, ← hcast, difference_emod _ _ _ false a.isLt b.isLt, Bool.eq_iff_iff]
  simp only [BitVec.toInt_eq_toNat_cond, Bool.toNat_false, Bool.xor_iff_ne, ne_eq, decide_eq_decide,
    decide_eq_true_eq]
  generalize 2 ^ n = N at *
  split_ifs <;> omega

end Compared

section Conditions
variable {a b : Byte} {p : Psw} (h : DifferenceFlags a b false p)
include h

theorem condZ_compared : condZ p = decide (a = b) := h.zf_eq_equal

theorem condNz_compared : condNz p = decide (a ≠ b) := by simp [condNz, h.zf_eq_equal]

theorem condCs_compared : condCs p = decide (a.toNat < b.toNat) := h.cf_eq_less

theorem condCc_compared : condCc p = decide (b.toNat ≤ a.toNat) := by
  rw [condCc, h.cf_eq_less, ← decide_not, decide_eq_decide, not_lt]

theorem condLe_compared : condLe p = decide (a.toNat ≤ b.toNat) := by
  rw [condLe, h.cf_eq_less, h.zf_eq_equal, ← Bool.decide_or, decide_eq_decide, ← BitVec.toNat_inj]
  omega

theorem condGt_compared : condGt p = decide (b.toNat < a.toNat) := by
  rw [condGt, ← condLe, condLe_compared h, ← decide_not, decide_eq_decide, not_le]

theorem condSlt_compared : condSlt p = decide (a.toInt < b.toInt) :=
  h.sf_xor_vf_eq_less (by omega)

theorem condSge_compared : condSge p = decide (b.toInt ≤ a.toInt) := by
  rw [condSge, ← condSlt, condSlt_compared h, ← decide_not, decide_eq_decide, not_lt]

theorem condSle_compared : condSle p = decide (a.toInt ≤ b.toInt) := by
  rw [condSle, ← condSlt, condSlt_compared h, h.zf_eq_equal, ← Bool.decide_or, decide_eq_decide,
    ← BitVec.toInt_inj]
  omega

theorem condSgt_compared : condSgt p = decide (b.toInt < a.toInt) := by
  rw [condSgt, ← condSle, condSle_compared h, ← decide_not, decide_eq_decide, not_le]

end Conditions

/-! ## Relative jumps -/

theorem add_sext16 (pc w : Word) (d : Byte) :
    pc + w + sext16 d = BitVec.ofInt 16 (pc.toNat + w.toNat + d.toInt) := by
  simp [BitVec.ofInt_add, sext16, BitVec.signExtend]

/-- A relative jump goes to the sum over the integers, modulo 65536 (R400). -/
theorem jumpRelative_jumps (s : State) (taken : Bool) (base : Word) (d : Byte) (len : Nat) :
    jumps (jumpRelative taken base (sext16 d) len s) s taken (s.pc.toNat + base.toNat + d.toInt)
      len := by
  unfold jumps
  rw [← add_sext16]
  cases taken <;> rfl

/-- The jump that follows a two-byte instruction which only writes flags: its target counted from
that instruction. -/
theorem jumpRelative_afterFlags (s : State) (p : Psw) (base : Word) (d : Byte) (len : Nat)
    {cond taken : Bool} (h : cond = taken) :
    jumps (jumpRelative cond base (sext16 d) len (s.afterFlags p 2)) (s.afterFlags p 2) taken
      (s.pc.toNat + (2 + base).toNat + d.toInt) len := by
  subst h
  have htarget : BitVec.ofInt 16 (s.pc.toNat + (2 + base).toNat + d.toInt)
      = BitVec.ofInt 16 ((s.afterFlags p 2).pc.toNat + base.toNat + d.toInt) := by
    rw [← add_sext16, ← add_sext16, ← BitVec.add_assoc]
    rfl
  unfold jumps
  rw [htarget]
  exact jumpRelative_jumps _ _ _ _ _

/-! ## SHLCA and SHRCA over the integers -/

theorem shlcaN_res (v : Word) : (shlcaN v).1 = BitVec.ofInt 16 (2 * v.toInt) := by
  rw [BitVec.ofInt_mul, BitVec.ofInt_toInt]
  change v <<< 1 = 2#16 * v
  bv_omega

theorem shlcaN_toNat (v : Word) : (shlcaN v).1.toNat = 2 * v.toNat % 65536 := by
  simp [shlcaN, Nat.shiftLeft_eq, Nat.mul_comm]

theorem shlcaN_carry (v : Word) : (shlcaN v).2 = decide (32768 ≤ v.toNat) :=
  (BitVec.msb_eq_getLsbD_last v).symm.trans (BitVec.msb_eq_decide v)

theorem shlcaN_zero (v : Word) : ((shlcaN v).1 == 0) = decide (2 * v.toNat % 65536 = 0) := by
  rw [beq_zero_eq_decide, shlcaN_toNat]

theorem shlcaN_sign (v : Word) : (shlcaN v).1.msb = decide (32768 ≤ 2 * v.toNat % 65536) := by
  rw [BitVec.msb_eq_decide, shlcaN_toNat]

/-- The top bit changes exactly when the double leaves the signed range (R336). -/
theorem shlcaN_overflow (v : Word) : (v.msb != (shlcaN v).1.msb)
    = decide (2 * v.toInt < -32768 ∨ 32768 ≤ 2 * v.toInt) := by
  have hv := v.isLt
  rw [Bool.eq_iff_iff]
  simp only [BitVec.msb_eq_decide, shlcaN_toNat, BitVec.toInt_eq_toNat_cond, bne_iff_ne, ne_eq,
    decide_eq_decide, decide_eq_true_eq]
  split_ifs <;> omega

theorem shrcaN_toInt (v : Word) : (shrcaN v).1.toInt = v.toInt / 2 :=
  BitVec.toInt_sshiftRight.trans (Int.shiftRight_eq_div_pow _ 1)

theorem shrcaN_res (v : Word) : (shrcaN v).1 = BitVec.ofInt 16 (v.toInt / 2) := by
  rw [← shrcaN_toInt, BitVec.ofInt_toInt]

theorem shrcaN_zero (v : Word) : ((shrcaN v).1 == 0) = decide (v.toInt / 2 = 0) := by
  rw [← shrcaN_toInt, Bool.eq_iff_iff, beq_iff_eq, decide_eq_true_iff, ← BitVec.toInt_inj]
  rfl

theorem shrcaN_sign (v : Word) : (shrcaN v).1.msb = decide (v.toInt < 0) := by
  rw [BitVec.msb_eq_toInt, shrcaN_toInt, decide_eq_decide]
  omega

theorem shrcaN_carry (v : Word) : (shrcaN v).2 = decide (v.toNat % 2 = 1) :=
  (BitVec.testBit_toNat v).symm.trans (Nat.testBit_zero _)

end Sys2Proof.Machine

open Sys2Proof Sys2Proof.Machine

/-- Settles O32: the flags of the difference (`aluReg8_cmp`) order the two bytes, and each jump is
`jumpRelative` under its condition. -/
theorem comparedBytesOrderTheBranches : Obligations.ComparedBytesOrderTheBranches := by
  intro s r g d
  obtain ⟨p, hexec, h, hjf, -⟩ := aluReg8_cmp s r (s.get8 g) 2
  have hT : condT p = decide (s.get8 r = s.get8 g) := hjf.trans h.zf_eq_equal
  have hF : condF p = decide (s.get8 r ≠ s.get8 g) := by rw [condF, ← condT, hT, ← decide_not]
  have jump2 {cond taken : Bool} (hc : cond = taken) :=
    jumpRelative_afterFlags s p 2 d 2 hc
  have jump3 {cond taken : Bool} (hc : cond = taken) :=
    jumpRelative_afterFlags s p 3 d 3 hc
  exact ⟨s.afterFlags p 2, hexec, jump2 (condZ_compared h), jump2 (condNz_compared h),
    jump2 (condCs_compared h), jump2 (condCc_compared h), jump2 (condLe_compared h),
    jump2 (condGt_compared h), jump2 hT, jump2 hF, jump3 (condSlt_compared h),
    jump3 (condSge_compared h), jump3 (condSle_compared h), jump3 (condSgt_compared h)⟩

/-- Settles O42, one lemma about `shlcaN` or `shrcaN` for the result and each flag. -/
theorem wordArithmeticShifts : Obligations.WordArithmeticShifts := by
  rintro s gg n z rfl rfl
  constructor
  · rw [← shlcaN_res, ← shlcaN_carry, ← shlcaN_zero, ← shlcaN_sign, ← shlcaN_overflow]
    rfl
  · rw [← shrcaN_res, ← shrcaN_carry, ← shrcaN_zero, ← shrcaN_sign]
    rfl

end

section
/-! PROOFS. O26, O30, O54, O55: what the shared operations do under the default regions, all `ram`
(20_memory.md R59), one equation each, and the instructions that are uses of them. -/

namespace Sys2Proof.Machine

/-- The byte image of PSW gives the flags back, whatever its other bits (10_state.md R29, R30). -/
theorem pswOfByte_pswImage (p : Psw) (low : BitVec 2) : pswOfByte (pswImage p low) = p := by
  simp only [pswOfByte, pswImage]
  simp only [BitVec.getLsbD_append]
  simp

@[simp] theorem srcBegin_get8 (m : Src) (s : State) (r : Reg8) :
    (srcBegin m s).get8 r = s.get8 r := by cases m <;> rfl

section AllRam
variable {s : State} (h : s.allRam)
include h

theorem loadWord_allRam (a : Word) (k : Word → State → Result) :
    loadWord a s k = k (s.wordAt a) s := by
  unfold loadWord
  rw [loadByte_ram (h a), loadByte_ram (h (a + 1))]
  rfl

theorem storeWord_allRam (a v : Word) (k : State → Result) :
    storeWord a v s k = k (s.setWord a v) := by
  unfold storeWord
  rw [storeByte_ram (h a), storeByte_ram (s := s.setByte a (loByte v)) (h (a + 1))]
  rfl

theorem push16_allRam (v : Word) (k : State → Result) : push16 v s k = k (s.pushed v) := by
  unfold push16
  rw [storeByte_ram (h s.sp), State.setByte_sp,
    storeByte_ram (s := s.setByte s.sp (hiByte v)) (h (s.sp - 1))]
  rfl

theorem srcBegin_allRam (m : Src) : (srcBegin m s).allRam := fun a =>
  (srcBegin_kindAt m s a).trans (h a)

theorem withSrcByte_allRam (m : Src) (k : Byte → State → Result) :
    withSrcByte m s k = k (s.byteAt (srcAddr m s)) (srcBegin m s) := by
  unfold withSrcByte
  rw [loadByte_ram (srcBegin_allRam h m _), srcBegin_byteAt]

theorem updateSrcByte_allRam (m : Src) (f : Byte → Byte) (k : Byte → State → Result) :
    updateSrcByte m f s k = k (s.byteAt (srcAddr m s))
      ((srcBegin m s).setByte (srcAddr m s) (f (s.byteAt (srcAddr m s)))) := by
  unfold updateSrcByte
  rw [loadByte_ram (srcBegin_allRam h m _), storeByte_ram (srcBegin_allRam h m _), srcBegin_byteAt]

theorem exchangeSrcWord_allRam (m : Src) (v : State → Word) (k : Word → State → Result) :
    exchangeSrcWord m v s k = k (s.wordAt (srcAddr m s))
      ((srcBegin m s).setWord (srcAddr m s) (v (srcBegin m s))) := by
  unfold exchangeSrcWord
  rw [loadWord_allRam (srcBegin_allRam h m), storeWord_allRam (srcBegin_allRam h m)]
  simp only [State.wordAt, srcBegin_byteAt]

/-- The entry into a handler (46 R443), access by access. -/
theorem enterHandler_allRam (ra vector : Word) :
    entersHandler (enterHandler ra vector s) s ra vector := by
  have hk : ∀ a, s.kindAt a = .ram := h
  refine ⟨Config.pswLowBits s.draws, ?_⟩
  simp only [enterHandler, loadImf, storeImf, loadWord, loadByte_ram, storeByte_ram, hk,
    State.drew_kindAt, State.setByte_kindAt, State.putSp_kindAt]
  rfl

/-- The return from a handler (46 R441, R442), access by access. -/
theorem returnFromHandler_allRam : returnFromHandler s = .next
    { (s.withImf (bitOf (s.byteAt (s.sp + 3)) 0)).putSp (s.sp + 3) with
      pc := s.wordAt (s.sp + 1)
      psw := pswOfByte (s.byteAt (s.sp + 3)) } := by
  have hk : ∀ a, s.kindAt a = .ram := h
  simp only [returnFromHandler, storeImf, loadWord, loadByte_ram, storeByte_ram, hk,
    State.putPsw_kindAt, State.putSp_kindAt]
  rfl

theorem execPushPsw_allRam : execPushPsw s = .next
    { (s.setByte s.sp (pswImage s.psw (Config.pswLowBits s.draws))).putSp (s.sp - 1) with
      pc := s.pc + 2, draws := s.draws + 1 } := by
  unfold execPushPsw
  rw [storeByte_ram (s := s.drew 1) (h s.sp)]
  rfl

theorem execPopPsw_allRam : execPopPsw s
    = .next ((s.putSp (s.sp + 1)).afterFlags (pswOfByte (s.byteAt (s.sp + 1))) 2) := by
  unfold execPopPsw
  exact (loadByte_ram (s := s.putSp (s.sp + 1)) (h (s.sp + 1)) fun t s =>
    .next ((s.putPsw (pswOfByte t)).advance 2))

/-- An ALU operation with a memory byte as first operand: all but CMP write the result back where
the byte was read (41 R211, R219, 20_memory.md R58). -/
theorem aluSrc8_allRam (op : AluOp) (m : Src) (n : Byte) (len : Nat) {x : Byte × Psw}
    (hx : alu8 op (s.byteAt (srcAddr m s)) n s.psw = x) :
    aluSrc8 op m n len s = .next ((if op = .cmp then srcBegin m s
      else (srcBegin m s).setByte (srcAddr m s) x.1).afterFlags x.2 len) := by
  subst hx
  unfold aluSrc8
  split
  · rw [withSrcByte_allRam h, srcBegin_psw]
    rfl
  · rw [updateSrcByte_allRam h, State.setByte_psw, srcBegin_psw]
    rfl

end AllRam

theorem ariFlags_sum (a b : Byte) (cin half : Bool) :
    SumFlags a b cin (ariFlags (addN a b cin) half) :=
  addN_sumFlags (by omega) a b cin (ariFlags_agrees _ _)

theorem ariFlags_difference (a b : Byte) (cin half : Bool) :
    DifferenceFlags a b cin (ariFlags (subN a b cin) half) :=
  subN_differenceFlags (by omega) a b cin (ariFlags_agrees _ _)

theorem cmpFlags_difference (a b : Byte) (half : Bool) :
    DifferenceFlags a b false (cmpFlags (subN a b false) half) :=
  subN_differenceFlags (by omega) a b false (cmpFlags_agrees _ _)

end Sys2Proof.Machine

open Sys2Proof Sys2Proof.Machine

/-- Settles O54: SWI is the entry into a handler (`enterHandler_allRam`). -/
theorem softwareInterruptEntersItsHandler : Obligations.SoftwareInterruptEntersItsHandler :=
  fun s h => enterHandler_allRam h (s.pc + 1) swiVector

/-- Settles O55: both are the return from a handler (`returnFromHandler_allRam`). -/
theorem interruptReturnsRestoreTheFrame : Obligations.InterruptReturnsRestoreTheFrame := by
  rintro s _ _ h rfl rfl
  exact ⟨returnFromHandler_allRam h, returnFromHandler_allRam h⟩

/-- Settles O26: the byte pushed is the image of PSW (`pswOfByte_pswImage`). -/
theorem pswTravelsAsAByte : Obligations.PswTravelsAsAByte := by
  refine ⟨fun s n => rfl, fun s h => ⟨⟨_, execPushPsw_allRam h, ?_⟩, execPopPsw_allRam h⟩⟩
  have himage := pswOfByte_pswImage s.psw (Config.pswLowBits s.draws)
  exact ⟨congrArg Psw.jf himage, congrArg Psw.zf himage, congrArg Psw.cf himage,
    congrArg Psw.hf himage, congrArg Psw.sf himage, congrArg Psw.vf himage⟩

/-- Settles O30: the forms `op r,(src)` are `aluReg8` in the state after the address is formed,
whose flags are as before; the forms `op (src),n` are `aluSrc8`. -/
theorem byteArithmeticOnMemory : Obligations.ByteArithmeticOnMemory := by
  rintro s x n r m v h rfl
  have hexec (op : AluOp) : withSrcByte m s (fun v s => aluReg8 op r v (srcLen m 0) s)
      = aluReg8 op r (s.byteAt (srcAddr m s)) (srcLen m 0) (srcBegin m s) :=
    withSrcByte_allRam h m _
  have hadd : exec (.addRSrc r m) s = _ := hexec .add
  have haddc : exec (.addcRSrc r m) s = _ := hexec .addc
  have hsub : exec (.subRSrc r m) s = _ := hexec .sub
  have hsubb : exec (.subbRSrc r m) s = _ := hexec .subb
  have hcmp : exec (.cmpRSrc r m) s = _ := hexec .cmp
  have hnoBorrow (b c : Byte) : BitVec.ofInt 8 (b.toNat - c.toNat) = (subN b c false).res := by
    simp [subN_res]
  rw [hadd, haddc, hsub, hsubb, hcmp, ← srcBegin_psw m s, ← srcBegin_get8 m s r,
    hnoBorrow, ← subN_res]
  exact ⟨aluReg8_add _ _ _ _, aluReg8_addc _ _ _ _, aluReg8_sub _ _ _ _, aluReg8_subb _ _ _ _,
    aluReg8_cmp _ _ _ _,
    ⟨_, aluSrc8_allRam h .cmp m n _ rfl, cmpFlags_difference _ _ _, rfl, rfl⟩,
    ⟨_, aluSrc8_allRam h .cmp (.dir8 x) n _ rfl, cmpFlags_difference _ _ _, rfl, rfl⟩,
    ⟨_, aluSrc8_allRam h .add m n _ rfl, ariFlags_sum _ _ _ _, rfl, rfl⟩,
    ⟨_, srcBegin_psw m s ▸ aluSrc8_allRam h .addc m n _ rfl, ariFlags_sum _ _ _ _, rfl, rfl⟩,
    ⟨_, aluSrc8_allRam h .sub m n _ rfl, ariFlags_difference _ _ _ _, rfl, rfl⟩,
    ⟨_, srcBegin_psw m s ▸ aluSrc8_allRam h .subb m n _ rfl, ariFlags_difference _ _ _ _, rfl, rfl⟩⟩

end

section
/-! PROOFS. O15, O17, O21: which registers and which bytes an instruction leaves, and where PC ends,
in one case split over the instructions. `Framed x s ws st len` is the common statement; each shared
operation has it said once. -/

namespace Sys2Proof.Machine

/-! ## States that differ in given registers and bytes -/

theorem Storage.same_of_eq {g h : Regs} (e : h = g) (x : Storage) : x.same g h := by
  subst e
  cases x <;> rfl

theorem Storage.same_trans {x : Storage} {g h k : Regs} (hgh : x.same g h) (hhk : x.same h k) :
    x.same g k := by
  cases x <;> exact Eq.trans hhk hgh

theorem Storage.same_put8 {x : Storage} {r : Reg8} (hx : x ≠ .byte r) (g : Regs) (v : Byte) :
    x.same g (g.put8 r v) := by
  cases x with
  | byte q => exact Regs.get8_put8_other g r q v fun h => hx (h ▸ rfl)
  | ix => exact Regs.put8_ix g r v
  | iy => exact Regs.put8_iy g r v
  | sp => exact Regs.put8_sp g r v

/-- A 16-bit register written is both its halves written (10_state.md R22, R23). -/
theorem Storage.same_put16 {x : Storage} {rr : Reg16} (hx : x ∉ halves rr) (g : Regs) (v : Word) :
    x.same g (g.put16 rr v) := by
  cases rr with
  | wa | bc | de | hl | hl7 =>
    obtain ⟨hhi, hlo, -⟩ : x ≠ _ ∧ x ≠ _ ∧ x ∉ [] := by simpa [halves] using hx
    exact Storage.same_trans (Storage.same_put8 hhi g (hiByte v))
      (Storage.same_put8 hlo _ (loByte v))
  | ix =>
    cases x with
    | ix => exact absurd (.head _) hx
    | _ => rfl
  | iy =>
    cases x with
    | iy => exact absurd (.head _) hx
    | _ => rfl
  | sp =>
    cases x with
    | sp => exact absurd (.head _) hx
    | _ => rfl

theorem hiByte_toNat (v : Word) : (hiByte v).toNat = v.toNat / 256 := by
  have hv := v.isLt
  simp [hiByte, Nat.shiftRight_eq_div_pow]
  omega

theorem loByte_toNat (v : Word) : (loByte v).toNat = v.toNat % 256 := by simp [loByte]

/-- From s to t only registers of ws and bytes at addresses of st have changed, and PC has not. -/
structure Frame (ws : List Storage) (st : List Word) (s t : State) : Prop where
  regs : ∀ x, x ∉ ws → x.same s.regs t.regs
  bytes : ∀ a, a ∉ st → t.byteAt a = s.byteAt a
  pc : t.pc = s.pc

section Frame
variable {ws : List Storage} {st : List Word} {s t u : State}

theorem Frame.trans (h : Frame ws st s t) (h' : Frame ws st t u) : Frame ws st s u where
  regs x hx := Storage.same_trans (h.regs x hx) (h'.regs x hx)
  bytes a ha := (h'.bytes a ha).trans (h.bytes a ha)
  pc := h'.pc.trans h.pc

theorem Frame.refl (s : State) : Frame ws st s s :=
  ⟨fun x _ => x.same_of_eq rfl, fun _ _ => rfl, rfl⟩

theorem Frame.drew (s : State) (n : Nat) : Frame ws st s (s.drew n) :=
  ⟨fun x _ => x.same_of_eq rfl, fun _ _ => rfl, rfl⟩

theorem Frame.putPsw (s : State) (p : Psw) : Frame ws st s (s.putPsw p) :=
  ⟨fun x _ => x.same_of_eq rfl, fun _ _ => rfl, rfl⟩

theorem Frame.put8 {r : Reg8} (hr : .byte r ∈ ws) (s : State) (v : Byte) :
    Frame ws st s (s.put8 r v) :=
  ⟨fun _ hx => Storage.same_put8 (ne_of_mem_of_not_mem hr hx).symm _ _, fun _ _ => rfl, rfl⟩

theorem Frame.put16 {rr : Reg16} (hr : halves rr ⊆ ws) (s : State) (v : Word) :
    Frame ws st s (s.put16 rr v) :=
  ⟨fun _ hx => Storage.same_put16 (fun h => hx (hr h)) _ _, fun _ _ => rfl, rfl⟩

theorem Frame.putSp (hsp : .sp ∈ ws) (s : State) (v : Word) : Frame ws st s (s.putSp v) :=
  Frame.put16 (rr := .sp) (List.cons_subset.2 ⟨hsp, List.nil_subset _⟩) s v

theorem Frame.srcBegin {m : Src} (hm : srcMoves m ⊆ ws) (s : State) :
    Frame ws st s (srcBegin m s) := by
  cases m with
  | incSp => exact .putSp (hm (.head _)) s _
  | _ => exact .refl s

theorem Frame.dstEnd {m : Dst} (hm : dstMoves m ⊆ ws) (s : State) :
    Frame ws st s (dstEnd m s) := by
  cases m with
  | spDec => exact .putSp (hm (.head _)) s _
  | _ => exact .refl s

theorem Frame.aluKeep8 {op : AluOp} {r : Reg8} (hr : op ≠ .cmp → .byte r ∈ ws) (s : State)
    (v : Byte) : Frame ws st s (aluKeep8 op r v s) := by
  unfold Machine.aluKeep8
  split
  · exact .refl s
  · exact .put8 (hr ‹_›) s v

theorem Frame.aluKeep16 {op : AluOp} {rr : Reg16} (hr : op ≠ .cmp → halves rr ⊆ ws) (s : State)
    (v : Word) : Frame ws st s (aluKeep16 op rr v s) := by
  unfold Machine.aluKeep16
  split
  · exact .refl s
  · exact .put16 (hr ‹_›) s v

theorem Loaded.frame {a : Word} {v : Byte} (h : Loaded a s v t) : Frame ws st s t :=
  ⟨fun x _ => x.same_of_eq h.regs, fun b _ => h.byteAt b, h.pc⟩

theorem Stored.frame {a : Word} {v : Byte} (ha : a ∈ st) (h : Stored a v s t) : Frame ws st s t :=
  ⟨fun x _ => x.same_of_eq h.regs, fun b hb => h.byteAt b fun e => hb (e ▸ ha), h.pc⟩

end Frame

theorem State.sp_eq_of_regs {s t : State} (h : t.regs = s.regs) : t.sp = s.sp := congrArg Regs.sp h

theorem srcBegin_of_ne {m : Src} (h : m ≠ .incSp) (s : State) : srcBegin m s = s := by
  cases m with
  | incSp => exact absurd rfl h
  | _ => rfl

/-! ## Results framed by a state -/

/-- Where x is a next state, only registers of ws and bytes at addresses of st differ from those of
s; and where a length is given, PC is that many bytes on (10_state.md R26). -/
def Framed (x : Result) (s : State) (ws : List Storage) (st : List Word) (len : Option Nat) :
    Prop :=
  ∀ t, x = .next t → (∀ y, y ∉ ws → y.same s.regs t.regs) ∧ (∀ a, a ∉ st → t.byteAt a = s.byteAt a)
    ∧ ∀ n ∈ len, t.pc = s.pc + BitVec.ofNat 16 n

section Framed
variable {x : Result} {s t : State} {ws : List Storage} {st : List Word} {len : Option Nat}

theorem Framed.fault (f : Fault) : Framed (.fault f) s ws st len := by rintro _ ⟨⟩

/-- The usual end of an instruction: the flags written, then PC moved on. -/
theorem Frame.ended (h : Frame ws st s t) (p : Psw) (n : Nat) :
    Framed (.next ((t.putPsw p).advance n)) s ws st (some n) := by
  rintro _ ⟨⟩
  refine ⟨h.regs, h.bytes, ?_⟩
  rintro _ ⟨⟩
  rw [← h.pc]
  rfl

/-- The end of an instruction that transfers control. -/
theorem Frame.transferred (h : Frame ws st s t) (v : Word) :
    Framed (.next (t.putPc v)) s ws st none := by
  rintro _ ⟨⟩
  exact ⟨h.regs, h.bytes, by rintro _ ⟨⟩⟩

/-- What goes on from a framed state. -/
theorem Frame.framed (h : Frame ws st s t) (hx : Framed x t ws st len) : Framed x s ws st len := by
  intro u hu
  obtain ⟨hregs, hbytes, hpc⟩ := hx u hu
  exact ⟨fun y hy => Storage.same_trans (h.regs y hy) (hregs y hy),
    fun a ha => (hbytes a ha).trans (h.bytes a ha), fun n hn => h.pc ▸ hpc n hn⟩

/-- The length of an instruction with a source operand is that of its encoding (30_encoding.md R83,
R102). -/
theorem srcPrefix_append_length (m : Src) {bs : List Byte} {extra : Nat}
    (h : bs.length = 1 + extra) : (Encode.srcPrefix m ++ bs).length = srcLen m extra := by
  cases m <;> simp [Encode.srcPrefix, srcLen, h] <;> omega

/-- The length of an instruction with a destination operand is that of its encoding. -/
theorem dstPrefix_append_length (m : Dst) {bs : List Byte} {extra : Nat}
    (h : bs.length = 1 + extra) : (Encode.dstPrefix m ++ bs).length = dstLen m extra := by
  cases m <;> simp [Encode.dstPrefix, dstLen, h] <;> omega

theorem Framed.src {m : Src} {bs : List Byte} {extra : Nat} (hbs : bs.length = 1 + extra)
    (h : Framed x s ws st (some (srcLen m extra))) :
    Framed x s ws st (some (Encode.srcPrefix m ++ bs).length) := srcPrefix_append_length m hbs ▸ h

theorem Framed.dst {m : Dst} {bs : List Byte} {extra : Nat} (hbs : bs.length = 1 + extra)
    (h : Framed x s ws st (some (dstLen m extra))) :
    Framed x s ws st (some (Encode.dstPrefix m ++ bs).length) := dstPrefix_append_length m hbs ▸ h

/-! ## Memory, the stack, handlers -/

theorem loadByte_framed {a : Word} {k : Byte → State → Result}
    (h : ∀ v t, t.regs = s.regs → Framed (k v t) t ws st len) :
    Framed (loadByte a s k) s ws st len := fun u hu => by
  obtain ⟨v, t, ht, hk⟩ := loadByte_next hu
  exact ht.frame.framed (h v t ht.regs) u hk

theorem storeByte_framed {a : Word} {v : Byte} {k : State → Result} (ha : a ∈ st)
    (h : ∀ t, t.regs = s.regs → Framed (k t) t ws st len) :
    Framed (storeByte a v s k) s ws st len := fun u hu => by
  obtain ⟨t, ht, hk⟩ := storeByte_next hu
  exact (ht.frame ha).framed (h t ht.regs) u hk

theorem loadWord_framed {a : Word} {k : Word → State → Result}
    (h : ∀ v t, t.regs = s.regs → Framed (k v t) t ws st len) :
    Framed (loadWord a s k) s ws st len :=
  loadByte_framed fun _ _ ht => loadByte_framed fun _ u hu => h _ u (hu.trans ht)

theorem storeWord_framed {a v : Word} {k : State → Result} (ha : a ∈ st) (ha' : a + 1 ∈ st)
    (h : ∀ t, Framed (k t) t ws st len) : Framed (storeWord a v s k) s ws st len :=
  storeByte_framed ha fun _ _ => storeByte_framed ha' fun t _ => h t

theorem push16_framed {v : Word} {k : State → Result} (hsp : .sp ∈ ws) (ha : s.sp ∈ st)
    (ha' : s.sp - 1 ∈ st) (h : ∀ t, Framed (k t) t ws st len) :
    Framed (push16 v s k) s ws st len :=
  storeByte_framed ha fun _ ht => storeByte_framed (State.sp_eq_of_regs ht ▸ ha') fun u _ =>
    (Frame.putSp hsp u _).framed (h _)

theorem pop16_framed {k : Word → State → Result} (hsp : .sp ∈ ws)
    (h : ∀ v t, Framed (k v t) t ws st len) : Framed (pop16 s k) s ws st len := by
  unfold pop16
  exact (Frame.putSp hsp s _).framed
    (loadByte_framed fun _ _ _ => loadByte_framed fun _ t _ => h _ t)

theorem storeImf_framed {c : Bool} {k : State → Result} (ha : imfAddress ∈ st)
    (h : ∀ t, Framed (k t) t ws st len) : Framed (storeImf c s k) s ws st len :=
  loadByte_framed fun _ _ _ => storeByte_framed ha fun t _ => h t

theorem withSrcByte_framed {m : Src} {k : Byte → State → Result} (hm : srcMoves m ⊆ ws)
    (h : ∀ v t, Framed (k v t) t ws st len) : Framed (withSrcByte m s k) s ws st len :=
  (Frame.srcBegin hm s).framed (loadByte_framed fun v t _ => h v t)

theorem withSrcWord_framed {m : Src} {k : Word → State → Result} (hm : srcMoves m ⊆ ws)
    (h : ∀ v t, t.regs = (srcBegin m s).regs → Framed (k v t) t ws st len) :
    Framed (withSrcWord m s k) s ws st len := (Frame.srcBegin hm s).framed (loadWord_framed h)

theorem toDstByte_framed {m : Dst} {v : Byte} {k : State → Result} (hm : dstMoves m ⊆ ws)
    (ha : dstAddr m s ∈ st) (h : ∀ t, Framed (k t) t ws st len) :
    Framed (toDstByte m v s k) s ws st len :=
  storeByte_framed ha fun t _ => (Frame.dstEnd hm t).framed (h _)

theorem toDstWord_framed {m : Dst} {v : Word} {k : State → Result} (hm : dstMoves m ⊆ ws)
    (ha : dstAddr m s ∈ st) (ha' : dstAddr m s + 1 ∈ st) (h : ∀ t, Framed (k t) t ws st len) :
    Framed (toDstWord m v s k) s ws st len :=
  storeWord_framed ha ha' fun t => (Frame.dstEnd hm t).framed (h _)

theorem updateSrcByte_framed {m : Src} {f : Byte → Byte} {k : Byte → State → Result}
    (hm : srcMoves m ⊆ ws) (ha : srcAddr m s ∈ st) (h : ∀ v t, Framed (k v t) t ws st len) :
    Framed (updateSrcByte m f s k) s ws st len :=
  (Frame.srcBegin hm s).framed
    (loadByte_framed fun v _ _ => storeByte_framed ha fun t _ => h v t)

theorem exchangeSrcWord_framed {m : Src} {f : State → Word} {k : Word → State → Result}
    (hm : srcMoves m ⊆ ws) (ha : srcAddr m s ∈ st) (ha' : srcAddr m s + 1 ∈ st)
    (h : ∀ v t, Framed (k v t) t ws st len) : Framed (exchangeSrcWord m f s k) s ws st len :=
  (Frame.srcBegin hm s).framed (loadWord_framed fun v _ _ => storeWord_framed ha ha' (h v))

end Framed

theorem enterHandler_framed (ra vector : Word) (s : State) :
    Framed (enterHandler ra vector s) s [.sp] [s.sp, s.sp - 1, s.sp - 2, imfAddress] none := by
  unfold enterHandler loadImf
  refine loadByte_framed fun _ t₁ h₁ => (Frame.drew t₁ 1).framed ?_
  refine storeByte_framed (by simp [State.sp, h₁]) fun t₂ h₂ => ?_
  refine storeByte_framed (by simp [State.sp, h₁, h₂]) fun t₃ h₃ => ?_
  refine storeByte_framed (by simp [State.sp, h₁, h₂, h₃]) fun t₄ _ => ?_
  refine (Frame.putSp (.head _) t₄ _).framed (storeImf_framed (by simp) fun t₅ => ?_)
  exact loadWord_framed fun v t _ => (Frame.refl t).transferred v

theorem returnFromHandler_framed (s : State) :
    Framed (returnFromHandler s) s [.sp] [imfAddress] none :=
  loadWord_framed fun ra _ _ => loadByte_framed fun _ t _ =>
    ((Frame.putPsw t _).trans (.putSp (.head _) _ _)).framed <|
      storeImf_framed (.head _) fun t => (Frame.refl t).transferred ra

/-! ## The shared ends of the instructions -/

section Shared
variable {s : State} {r : Reg8} {rr : Reg16} {m : Src} {n : Nat}
  {ws : List Storage} {st : List Word}

theorem aluReg8_framed {op : AluOp} {b : Byte} (hr : op ≠ .cmp → .byte r ∈ ws) :
    Framed (aluReg8 op r b n s) s ws st (some n) := (Frame.aluKeep8 hr s _).ended _ n

theorem aluReg16_framed {op : AluOp} {b : Word} (hr : op ≠ .cmp → halves rr ⊆ ws) :
    Framed (aluReg16 op rr b n s) s ws st (some n) :=
  ((Frame.aluKeep16 hr s _).trans (.drew _ _)).ended _ n

theorem aluSrc8_framed {op : AluOp} {b : Byte} (hm : srcMoves m ⊆ ws)
    (ha : op ≠ .cmp → srcAddr m s ∈ st) : Framed (aluSrc8 op m b n s) s ws st (some n) := by
  unfold aluSrc8
  split
  · exact withSrcByte_framed hm fun _ t => (Frame.refl t).ended _ n
  · exact updateSrcByte_framed hm (ha ‹_›) fun _ t => (Frame.refl t).ended _ n

theorem loadedReg8_framed {v : Byte} (hr : .byte r ∈ ws) :
    Framed (loadedReg8 r v n s) s ws st (some n) := (Frame.put8 hr s v).ended _ n

theorem loadedReg16_framed {v : Word} (hr : halves rr ⊆ ws) :
    Framed (loadedReg16 rr v n s) s ws st (some n) := (Frame.put16 hr s v).ended _ n

theorem transferred_framed : Framed (transferred n s) s ws st (some n) := (Frame.refl s).ended _ n

theorem pushReg16_framed (hsp : .sp ∈ ws) (ha : s.sp ∈ st) (ha' : s.sp - 1 ∈ st) :
    Framed (pushReg16 rr n s) s ws st (some n) :=
  push16_framed hsp ha ha' fun t => (Frame.refl t).ended t.psw n

theorem popReg16_framed (hsp : .sp ∈ ws) (hr : halves rr ⊆ ws) :
    Framed (popReg16 rr n s) s ws st (some n) :=
  pop16_framed hsp fun v t => (Frame.put16 hr t v).ended t.psw n

theorem callTo_framed {target : Word} (hsp : .sp ∈ ws) (ha : s.sp ∈ st) (ha' : s.sp - 1 ∈ st) :
    Framed (callTo target n s) s ws st none :=
  push16_framed hsp ha ha' fun t => (Frame.refl t).transferred target

theorem jumpRelative_framed {taken : Bool} {base d : Word} :
    Framed (jumpRelative taken base d n s) s ws st none := by
  cases taken <;> exact (Frame.putPsw s _).transferred _

theorem changeRegBit_framed {f : Byte → BitVec 3 → Byte} {b : BitVec 3} (hr : .byte r ∈ ws) :
    Framed (changeRegBit f r b s) s ws st (some 2) := (Frame.put8 hr s _).ended _ 2

theorem changeSrcBit_framed {f : Byte → BitVec 3 → Byte} {b : BitVec 3} (hm : srcMoves m ⊆ ws)
    (ha : srcAddr m s ∈ st) : Framed (changeSrcBit f m b n s) s ws st (some n) :=
  updateSrcByte_framed hm ha fun _ t => (Frame.refl t).ended _ n

theorem carryLoaded_framed {c : Bool} : Framed (carryLoaded c n s) s ws st (some n) :=
  (Frame.refl s).ended _ n

theorem testSrcBit_framed {b : BitVec 3} (hm : srcMoves m ⊆ ws) :
    Framed (testSrcBit m b n s) s ws st (some n) :=
  withSrcByte_framed hm fun _ _ => carryLoaded_framed

theorem putSrcBit_framed {b : BitVec 3} (hm : srcMoves m ⊆ ws) (ha : srcAddr m s ∈ st) :
    Framed (putSrcBit m b s) s ws st (some (srcLen m 0)) :=
  updateSrcByte_framed hm ha fun _ _ => transferred_framed

theorem stepSrc_framed {f : Byte → Byte × Bool × Bool} (hm : srcMoves m ⊆ ws)
    (ha : srcAddr m s ∈ st) : Framed (stepSrc f m s) s ws st (some (srcLen m 0)) :=
  updateSrcByte_framed hm ha fun _ t => (Frame.refl t).ended _ _

theorem execPushPsw_framed : Framed (execPushPsw s) s [.sp] [s.sp] (some 2) := by
  unfold execPushPsw
  refine (Frame.drew s 1).framed (storeByte_framed (.head _) fun t _ => ?_)
  exact (Frame.putSp (.head _) t _).ended t.psw 2

theorem execPopPsw_framed : Framed (execPopPsw s) s [.sp] st (some 2) := by
  unfold execPopPsw
  refine (Frame.putSp (.head _) s _).framed (loadByte_framed fun _ t _ => ?_)
  exact (Frame.refl t).ended _ 2

theorem callIncSp_framed : Framed (callIncSp s) s [.sp] [s.sp, s.sp + 1] none := by
  unfold callIncSp
  refine (Frame.putSp (.head _) s _).framed (storeByte_framed (.head _) fun _ _ => ?_)
  refine loadByte_framed fun _ _ _ => storeByte_framed (.tail _ (.head _)) fun _ _ => ?_
  exact loadByte_framed fun _ t _ => (Frame.putSp (.head _) t _).transferred _

theorem execCallSrc_framed : Framed (execCallSrc m s) s [.sp]
    (if m = .incSp then [s.sp, s.sp + 1] else [s.sp, s.sp - 1]) none := by
  unfold execCallSrc
  split
  · exact callIncSp_framed
  · refine withSrcWord_framed (by simp [srcMoves, *]) fun v t ht => ?_
    have hsp : t.sp = s.sp := State.sp_eq_of_regs (srcBegin_of_ne ‹_› s ▸ ht)
    exact callTo_framed (.head _) (by simp [hsp]) (by simp [hsp])

end Shared

/-! ## Every instruction -/

/-- The length of an instruction that transfers no control. -/
def ownLength (i : Instr) : Option Nat :=
  if transfersControl i then none else some (encode i).length

/-- Every instruction writes only its registers and its bytes, and moves PC past its own bytes
unless it transfers control. -/
theorem exec_framed (i : Instr) (s : State) :
    Framed (exec i s) s (writes i) (storedAt i s) (ownLength i) := by
  unfold exec
  cases i with
  | prefixReg _ _ | prefixSrcX _ _ | prefixSrcVw _ _ | prefixSrcDe _ | prefixSrcHl _
  | prefixSrcIx _ | prefixSrcIy _ | prefixSrcIncSp _ | prefixSrcHlC _ | prefixSrcIxD _ _
  | prefixSrcIyD _ _ | prefixSrcSpD _ _ | prefixSrcHlD _ _ | prefixSrcPcA _ | prefixDstX _ _
  | prefixDstVw _ _ | prefixDstDe _ | prefixDstHl _ | prefixDstIx _ | prefixDstIy _
  | prefixDstSpDec _ | prefixDstHlC _ | prefixDstIxD _ _ | prefixDstIyD _ _ | prefixDstSpD _ _
  | prefixDstHlD _ _ => exact .fault _
  -- the ALU
  | addcAN _ | addAN _ | subbAN _ | subAN _ | andAN _ | xorAN _ | orAN _ | addcRG _ _
  | addRG _ _ | subbRG _ _ | subRG _ _ | andRG _ _ | xorRG _ _ | orRG _ _ | addcGN _ _
  | addGN _ _ | subbGN _ _ | subGN _ _ | andGN _ _ | xorGN _ _ | orGN _ _ =>
    exact aluReg8_framed fun _ => .head _
  | cmpAN _ | cmpRG _ _ | cmpGN _ _ => exact aluReg8_framed (absurd rfl)
  | addcGgMn _ _ | addGgMn _ _ | subbGgMn _ _ | subGgMn _ _ | andGgMn _ _ | xorGgMn _ _
  | orGgMn _ _ | addcRrGg _ _ | addRrGg _ _ | subbRrGg _ _ | subRrGg _ _
  | andRrGg _ _ | xorRrGg _ _ | orRrGg _ _ => exact aluReg16_framed fun _ => List.Subset.refl _
  | cmpGgMn _ _ | cmpRrGg _ _ => exact aluReg16_framed (absurd rfl)
  | addcRSrc _ _ | addRSrc _ _ | subbRSrc _ _ | subRSrc _ _ | andRSrc _ _ | xorRSrc _ _
  | orRSrc _ _ =>
    exact .src rfl (withSrcByte_framed (List.subset_cons_self _ _) fun _ _ =>
      aluReg8_framed fun _ => .head _)
  | cmpRSrc _ _ =>
    exact .src rfl (withSrcByte_framed (List.Subset.refl _) fun _ _ => aluReg8_framed (absurd rfl))
  | addcRrSrc _ _ | addRrSrc _ _ | subbRrSrc _ _ | subRrSrc _ _ | andRrSrc _ _ | xorRrSrc _ _
  | orRrSrc _ _ =>
    exact .src rfl (withSrcWord_framed (List.subset_append_right _ _) fun _ _ _ =>
      aluReg16_framed fun _ => List.subset_append_left _ _)
  | cmpRrSrc _ _ =>
    exact .src rfl (withSrcWord_framed (List.Subset.refl _) fun _ _ _ =>
      aluReg16_framed (absurd rfl))
  | cmpXN _ _ => exact aluSrc8_framed (List.nil_subset _) (absurd rfl)
  | cmpSrcN _ _ => exact .src rfl (aluSrc8_framed (List.Subset.refl _) (absurd rfl))
  | addcSrcN _ _ | addSrcN _ _ | subbSrcN _ _ | subSrcN _ _ | andSrcN _ _ | xorSrcN _ _
  | orSrcN _ _ => exact .src rfl (aluSrc8_framed (List.Subset.refl _) fun _ => .head _)
  -- loads and exchanges
  | ldAR _ | ldRA _ | ldRG _ _ => exact loadedReg8_framed (.head _)
  | xchRG r g => exact (Frame.put8 (.tail _ (.head _)) s _).framed (loadedReg8_framed (.head _))
  | ldAX _ | ldAHl => exact loadByte_framed fun _ _ _ => loadedReg8_framed (.head _)
  | ldRSrc _ _ =>
    exact .src rfl (withSrcByte_framed (List.subset_cons_self _ _) fun _ _ =>
      loadedReg8_framed (.head _))
  | xchRSrc _ _ =>
    exact .src rfl (updateSrcByte_framed (List.subset_cons_self _ _) (.head _) fun _ _ =>
      loadedReg8_framed (.head _))
  | ldRrMn _ _ | ldRrGg _ _ | negCs _ => exact loadedReg16_framed (List.Subset.refl _)
  | xchRrGg _ _ =>
    exact (Frame.put16 (List.subset_append_right _ _) s _).framed
      (loadedReg16_framed (List.subset_append_left _ _))
  | ldRrSrc _ _ =>
    exact .src rfl (withSrcWord_framed (List.subset_append_right _ _) fun _ _ _ =>
      loadedReg16_framed (List.subset_append_left _ _))
  | xchRrSrc _ _ =>
    exact .src rfl (exchangeSrcWord_framed (List.subset_append_right _ _) (.head _)
      (.tail _ (.head _)) fun _ _ => loadedReg16_framed (List.subset_append_left _ _))
  -- stores and transfers that write JF alone
  | ldXN _ _ | ldHlN _ | ldXA _ | ldHlA =>
    exact storeByte_framed (.head _) fun _ _ => transferred_framed
  | ldwXMn _ _ | ldwHlMn _ =>
    exact storeWord_framed (.head _) (.tail _ (.head _)) fun _ => transferred_framed
  | ldDstR _ _ | ldDstN _ _ =>
    exact .dst rfl (toDstByte_framed (List.Subset.refl _) (.head _) fun _ => transferred_framed)
  | ldDstRr _ _ =>
    exact .dst rfl (toDstWord_framed (List.Subset.refl _) (.head _) (.tail _ (.head _)) fun _ =>
      transferred_framed)
  | ldRN _ _ | ldGBCf _ _ | swap _ => exact (Frame.put8 (.head _) s _).framed transferred_framed
  | ldSpPlusD _ | ldSpMinusD _ => exact (Frame.putSp (.head _) s _).framed transferred_framed
  | rold _ | rord _ =>
    exact .src rfl (updateSrcByte_framed (List.subset_cons_self _ _) (.head _) fun _ t =>
      (Frame.put8 (.head _) t _).framed transferred_framed)
  -- the stack and PSW
  | pushRr _ | pushGg _ => exact pushReg16_framed (.head _) (.head _) (.tail _ (.head _))
  | popRr _ | popGg _ => exact popReg16_framed (.head _) (List.subset_cons_self _ _)
  | pushPsw => exact execPushPsw_framed
  | popPsw => exact execPopPsw_framed
  | ldPswN _ => exact (Frame.refl s).ended _ 3
  -- increment, adjust, multiply, divide, shift
  | incR _ | decR _ => exact (Frame.put8 (.head _) s _).ended _ 1
  | incRr _ | decRr _ => exact (Frame.put16 (List.Subset.refl _) s _).ended _ 1
  | incSrc _ | decSrc _ => exact .src rfl (stepSrc_framed (List.Subset.refl _) (.head _))
  | daa _ | das _ => exact ((Frame.put8 (.head _) s _).trans (.drew _ _)).ended _ 2
  | div _ => exact ((Frame.put16 (List.Subset.refl _) s _).trans (.drew _ _)).ended _ 2
  | shlc _ | shrc _ | rolc _ | rorc _ => exact (Frame.put8 (.head _) s _).ended _ 2
  | mul _ | shlca _ | shrca _ => exact (Frame.put16 (List.Subset.refl _) s _).ended _ 2
  -- bits and CF
  | setGB _ _ | clrGB _ _ | cplGB _ _ => exact changeRegBit_framed (.head _)
  | setXB _ _ | clrXB _ _ | ei | di => exact changeSrcBit_framed (List.nil_subset _) (.head _)
  | setSrcB _ _ | clrSrcB _ _ | cplSrcB _ _ | setSrcA _ | clrSrcA _ | cplSrcA _ =>
    exact .src rfl (changeSrcBit_framed (List.Subset.refl _) (.head _))
  | clrCf | setCf | cplCf | xorCfGB _ _ | ldCfGB _ _ => exact carryLoaded_framed
  | xorCfSrcB _ _ =>
    exact .src rfl (withSrcByte_framed (List.Subset.refl _) fun _ _ => carryLoaded_framed)
  | ldCfXB _ _ => exact testSrcBit_framed (List.nil_subset _)
  | ldCfSrcB _ _ | ldCfSrcA _ => exact .src rfl (testSrcBit_framed (List.Subset.refl _))
  | ldSrcBCf _ _ | ldSrcACf _ => exact .src rfl (putSrcBit_framed (List.Subset.refl _) (.head _))
  -- jumps, calls, returns
  | nop => exact (Frame.refl s).ended s.psw 1
  | jpMn _ | jpGg _ => exact (Frame.refl s).transferred _
  | jpSrc _ =>
    exact withSrcWord_framed (List.Subset.refl _) fun _ t _ => (Frame.refl t).transferred _
  | jrsT _ | jrsF _ | jrZ _ | jrNz _ | jrCs _ | jrCc _ | jrLe _ | jrGt _ | jrT _ | jrF _ | jr _
  | jrM _ | jrP _ | jrSlt _ | jrSge _ | jrSle _ | jrSgt _ | jrVs _ | jrVc _ =>
    exact jumpRelative_framed
  | callMn _ | callGg _ => exact callTo_framed (.head _) (.head _) (.tail _ (.head _))
  | callv _ =>
    refine loadWord_framed fun _ t ht => ?_
    have hsp : t.sp = s.sp := State.sp_eq_of_regs ht
    exact callTo_framed (.head _) (hsp ▸ .head _) (hsp ▸ .tail _ (.head _))
  | callSrc _ => exact execCallSrc_framed
  | ret => exact pop16_framed (.head _) fun _ t => (Frame.refl t).transferred _
  | reti | retn => exact returnFromHandler_framed s
  | swi => exact enterHandler_framed _ _ s

end Sys2Proof.Machine

open Sys2Proof Sys2Proof.Machine

/-- Settles O15, by cases over the instructions (`exec_framed`). -/
theorem registersOutsideWritesAreUnchanged : Obligations.RegistersOutsideWritesAreUnchanged :=
  fun i s t h => (exec_framed i s t h).1

/-- Settles O17: an instruction that transfers no control moves PC by its own length
(`exec_framed`). -/
theorem pcMovesPastTheInstruction : Obligations.PcMovesPastTheInstruction := by
  intro i s t h hi
  obtain ⟨-, -, hpc⟩ := exec_framed i s t h
  exact hpc _ (by simp [ownLength, hi])

/-- Settles O21: a pair's halves are the bytes of its word, and no other register is written
(`Storage.same_put16`). -/
theorem wordRegisterLoads : Obligations.WordRegisterLoads := by
  intro s rr gg mn
  have hhi := hiByte_toNat mn
  have hlo := loByte_toNat mn
  exact ⟨rfl, rfl, hhi, hlo, hhi, hlo, hhi, hlo, hhi, hlo, rfl,
    fun g => (Regs.get16_put16_same g gg _).symm, fun x hx => Storage.same_put16 hx _ mn⟩

end

section
/-! PROOFS. O18: two runs of an instruction from states that differ in HF alone.
`HalfBlind c h x x'` is the common statement: where the first run x ends, the second x' ends in the
same state but for an HF that the column c leaves. Each shared operation has it said once. -/

namespace Sys2Proof.Machine

/-- The state with another HF. -/
def State.withHf (s : State) (h : Bool) : State := { s with psw := { s.psw with hf := h } }

/-- Where x is a next state, x' is the same but that HF is h if the column says it is unchanged. -/
def HalfBlind (c : Column) (h : Bool) (x x' : Result) : Prop :=
  ∀ t, x = .next t → x' = .next (t.withHf (if c = .keep then h else t.psw.hf))

section HalfBlind
variable {c : Column} {h : Bool}

/-- The end of an instruction that leaves HF: the two states differ in HF still. -/
theorem HalfBlind.keep {t t' : State} (e : t' = t.withHf h) :
    HalfBlind .keep h (.next t) (.next t') := by
  rintro _ ⟨⟩
  exact congrArg _ e

/-- What goes on from one state, HF written: the two runs are the same. -/
theorem HalfBlind.new (x : Result) : HalfBlind .new h x x := fun _ ht => ht

theorem HalfBlind.fault (f : Fault) (x' : Result) : HalfBlind c h (.fault f) x' := by
  rintro _ ⟨⟩

/-! ## Memory, the stack, handlers -/

theorem loadByte_halfBlind {a : Word} {s : State} {k k' : Byte → State → Result}
    (hk : ∀ v t, HalfBlind c h (k v t) (k' v (t.withHf h))) :
    HalfBlind c h (loadByte a s k) (loadByte a (s.withHf h) k') := by
  have hkind : (s.withHf h).kindAt a = s.kindAt a := rfl
  unfold loadByte
  rw [hkind]
  split
  · exact hk _ _
  · exact hk _ _
  · exact hk _ _
  · exact .fault _ _

theorem storeByte_halfBlind {a : Word} {v : Byte} {s : State} {k k' : State → Result}
    (hk : ∀ t, HalfBlind c h (k t) (k' (t.withHf h))) :
    HalfBlind c h (storeByte a v s k) (storeByte a v (s.withHf h) k') := by
  have hkind : (s.withHf h).kindAt a = s.kindAt a := rfl
  unfold storeByte
  rw [hkind]
  split
  · exact hk _
  · exact hk _
  · exact hk _
  · exact .fault _ _

theorem loadWord_halfBlind {a : Word} {s : State} {k k' : Word → State → Result}
    (hk : ∀ v t, HalfBlind c h (k v t) (k' v (t.withHf h))) :
    HalfBlind c h (loadWord a s k) (loadWord a (s.withHf h) k') :=
  loadByte_halfBlind fun _ _ => loadByte_halfBlind fun _ _ => hk _ _

theorem storeWord_halfBlind {a v : Word} {s : State} {k k' : State → Result}
    (hk : ∀ t, HalfBlind c h (k t) (k' (t.withHf h))) :
    HalfBlind c h (storeWord a v s k) (storeWord a v (s.withHf h) k') :=
  storeByte_halfBlind fun _ => storeByte_halfBlind hk

theorem push16_halfBlind {v : Word} {s : State} {k k' : State → Result}
    (hk : ∀ t, HalfBlind c h (k t) (k' (t.withHf h))) :
    HalfBlind c h (push16 v s k) (push16 v (s.withHf h) k') :=
  storeByte_halfBlind fun t => storeByte_halfBlind (s := t) fun u => hk (u.putSp (u.sp - 2))

theorem pop16_halfBlind {s : State} {k k' : Word → State → Result}
    (hk : ∀ v t, HalfBlind c h (k v t) (k' v (t.withHf h))) :
    HalfBlind c h (pop16 s k) (pop16 (s.withHf h) k') := by
  unfold pop16
  exact loadByte_halfBlind (s := s.putSp (s.sp + 2)) fun _ t =>
    loadByte_halfBlind (s := t) fun _ _ => hk _ _

theorem srcAddr_withHf (m : Src) (s : State) : srcAddr m (s.withHf h) = srcAddr m s := by
  cases m <;> rfl

theorem srcBegin_withHf (m : Src) (s : State) :
    srcBegin m (s.withHf h) = (srcBegin m s).withHf h := by
  cases m <;> rfl

theorem dstAddr_withHf (m : Dst) (s : State) : dstAddr m (s.withHf h) = dstAddr m s := by
  cases m <;> rfl

theorem dstEnd_withHf (m : Dst) (s : State) : dstEnd m (s.withHf h) = (dstEnd m s).withHf h := by
  cases m <;> rfl

theorem withSrcByte_halfBlind {m : Src} {s : State} {k k' : Byte → State → Result}
    (hk : ∀ v t, HalfBlind c h (k v t) (k' v (t.withHf h))) :
    HalfBlind c h (withSrcByte m s k) (withSrcByte m (s.withHf h) k') := by
  unfold withSrcByte
  rw [srcAddr_withHf, srcBegin_withHf]
  exact loadByte_halfBlind hk

theorem withSrcWord_halfBlind {m : Src} {s : State} {k k' : Word → State → Result}
    (hk : ∀ v t, HalfBlind c h (k v t) (k' v (t.withHf h))) :
    HalfBlind c h (withSrcWord m s k) (withSrcWord m (s.withHf h) k') := by
  unfold withSrcWord
  rw [srcAddr_withHf, srcBegin_withHf]
  exact loadWord_halfBlind hk

theorem toDstByte_halfBlind {m : Dst} {v : Byte} {s : State} {k k' : State → Result}
    (hk : ∀ t, HalfBlind c h (k t) (k' (t.withHf h))) :
    HalfBlind c h (toDstByte m v s k) (toDstByte m v (s.withHf h) k') := by
  unfold toDstByte
  rw [dstAddr_withHf]
  exact storeByte_halfBlind fun t => by
    rw [dstEnd_withHf]
    exact hk _

theorem toDstWord_halfBlind {m : Dst} {v : Word} {s : State} {k k' : State → Result}
    (hk : ∀ t, HalfBlind c h (k t) (k' (t.withHf h))) :
    HalfBlind c h (toDstWord m v s k) (toDstWord m v (s.withHf h) k') := by
  unfold toDstWord
  rw [dstAddr_withHf]
  exact storeWord_halfBlind fun t => by
    rw [dstEnd_withHf]
    exact hk _

theorem updateSrcByte_halfBlind {m : Src} {f : Byte → Byte} {s : State}
    {k k' : Byte → State → Result} (hk : ∀ v t, HalfBlind c h (k v t) (k' v (t.withHf h))) :
    HalfBlind c h (updateSrcByte m f s k) (updateSrcByte m f (s.withHf h) k') := by
  unfold updateSrcByte
  rw [srcAddr_withHf, srcBegin_withHf]
  exact loadByte_halfBlind fun v _ => storeByte_halfBlind (hk v)

theorem exchangeSrcWord_halfBlind {m : Src} {rr : Reg16} {s : State}
    {k k' : Word → State → Result} (hk : ∀ v t, HalfBlind c h (k v t) (k' v (t.withHf h))) :
    HalfBlind c h (exchangeSrcWord m (·.get16 rr) s k)
      (exchangeSrcWord m (·.get16 rr) (s.withHf h) k') := by
  unfold exchangeSrcWord
  rw [srcAddr_withHf, srcBegin_withHf]
  exact loadWord_halfBlind fun v t => storeWord_halfBlind (s := t) (hk v)

theorem returnFromHandler_halfBlind (s : State) :
    HalfBlind .new h (returnFromHandler s) (returnFromHandler (s.withHf h)) :=
  loadWord_halfBlind fun _ _ => loadByte_halfBlind fun _ _ => .new _

/-! ## The shared ends of the instructions -/

/-- The flags of an ALU operation do not depend on HF, but that the logic operations leave it
(41 R201, 42 R260). -/
theorem aluReg8_halfBlind (op : AluOp) {r : Reg8} {b : Byte} {len : Nat} {s : State} :
    HalfBlind (aluRow op).hf h (aluReg8 op r b len s) (aluReg8 op r b len (s.withHf h)) := by
  cases op with
  | addc | add | subb | sub | cmp => exact .new _
  | and | xor | or => exact .keep rfl

theorem aluReg16_halfBlind (op : AluOp) {rr : Reg16} {b : Word} {len : Nat} {s : State} :
    HalfBlind (aluRow op).hf h (aluReg16 op rr b len s) (aluReg16 op rr b len (s.withHf h)) := by
  cases op with
  | addc | add | subb | sub | cmp => exact .new _
  | and | xor | or => exact .keep rfl

theorem alu8_flags_halfBlind (op : AluOp) {a b : Byte} {len : Nat} {s : State} :
    HalfBlind (aluRow op).hf h (.next ((s.putPsw (alu8 op a b s.psw).2).advance len))
      (.next (((s.withHf h).putPsw (alu8 op a b (s.withHf h).psw).2).advance len)) := by
  cases op with
  | addc | add | subb | sub | cmp => exact .new _
  | and | xor | or => exact .keep rfl

theorem aluSrc8_halfBlind (op : AluOp) {m : Src} {n : Byte} {len : Nat} {s : State} :
    HalfBlind (aluRow op).hf h (aluSrc8 op m n len s) (aluSrc8 op m n len (s.withHf h)) := by
  have hres : (fun v => (alu8 op v n (s.withHf h).psw).1) = fun v => (alu8 op v n s.psw).1 := by
    cases op <;> rfl
  unfold aluSrc8
  split
  · exact withSrcByte_halfBlind fun _ _ => alu8_flags_halfBlind op
  · rw [hres]
    exact updateSrcByte_halfBlind fun _ _ => alu8_flags_halfBlind op

theorem testSrcBit_halfBlind {m : Src} {n : BitVec 3} {len : Nat} {s : State} :
    HalfBlind .keep h (testSrcBit m n len s) (testSrcBit m n len (s.withHf h)) :=
  withSrcByte_halfBlind fun _ _ => .keep rfl

theorem changeSrcBit_halfBlind {f : Byte → BitVec 3 → Byte} {m : Src} {n : BitVec 3} {len : Nat}
    {s : State} :
    HalfBlind .keep h (changeSrcBit f m n len s) (changeSrcBit f m n len (s.withHf h)) :=
  updateSrcByte_halfBlind fun _ _ => .keep rfl

theorem putSrcBit_halfBlind {m : Src} {n : BitVec 3} {s : State} :
    HalfBlind .keep h (putSrcBit m n s) (putSrcBit m n (s.withHf h)) :=
  updateSrcByte_halfBlind fun _ _ => .keep rfl

theorem stepSrc_halfBlind {f : Byte → Byte × Bool × Bool} {m : Src} {s : State} :
    HalfBlind .keep h (stepSrc f m s) (stepSrc f m (s.withHf h)) :=
  updateSrcByte_halfBlind fun _ _ => .keep rfl

theorem pushReg16_halfBlind {rr : Reg16} {len : Nat} {s : State} :
    HalfBlind .keep h (pushReg16 rr len s) (pushReg16 rr len (s.withHf h)) :=
  push16_halfBlind fun _ => .keep rfl

theorem popReg16_halfBlind {rr : Reg16} {len : Nat} {s : State} :
    HalfBlind .keep h (popReg16 rr len s) (popReg16 rr len (s.withHf h)) :=
  pop16_halfBlind fun _ _ => .keep rfl

theorem execPopPsw_halfBlind {s : State} :
    HalfBlind .new h (execPopPsw s) (execPopPsw (s.withHf h)) := by
  unfold execPopPsw
  exact loadByte_halfBlind (s := s.putSp (s.sp + 1)) fun _ _ => .new _

theorem callTo_halfBlind {target : Word} {len : Nat} {s : State} :
    HalfBlind .keep h (callTo target len s) (callTo target len (s.withHf h)) :=
  push16_halfBlind fun _ => .keep rfl

theorem callIncSp_halfBlind {s : State} :
    HalfBlind .keep h (callIncSp s) (callIncSp (s.withHf h)) := by
  unfold callIncSp
  refine storeByte_halfBlind (s := s.putSp (s.sp + 1)) fun _ => loadByte_halfBlind fun _ _ => ?_
  exact storeByte_halfBlind fun _ => loadByte_halfBlind fun _ _ => .keep rfl

theorem execCallSrc_halfBlind {m : Src} {s : State} :
    HalfBlind .keep h (execCallSrc m s) (execCallSrc m (s.withHf h)) := by
  unfold execCallSrc
  split
  · exact callIncSp_halfBlind
  · exact withSrcWord_halfBlind fun _ _ => callTo_halfBlind

theorem jumpRelative_halfBlind {taken : Bool} {base d : Word} {len : Nat} {s : State} :
    HalfBlind .keep h (jumpRelative taken base d len s)
      (jumpRelative taken base d len (s.withHf h)) := by
  cases taken <;> exact .keep rfl

end HalfBlind

/-- Every instruction but DAA, DAS, PUSH PSW and SWI is blind to HF (10_state.md R34). -/
theorem exec_halfBlind (i : Instr) (s : State) (h : Bool) (hdaa : ∀ g, i ≠ .daa g)
    (hdas : ∀ g, i ≠ .das g) (hpush : i ≠ .pushPsw) (hswi : i ≠ .swi) :
    HalfBlind (flagRow i).hf h (exec i s) (exec i (s.withHf h)) := by
  unfold exec
  cases i with
  | daa g => exact absurd rfl (hdaa g)
  | das g => exact absurd rfl (hdas g)
  | pushPsw => exact absurd rfl hpush
  | swi => exact absurd rfl hswi
  | prefixReg _ _ | prefixSrcX _ _ | prefixSrcVw _ _ | prefixSrcDe _ | prefixSrcHl _
  | prefixSrcIx _ | prefixSrcIy _ | prefixSrcIncSp _ | prefixSrcHlC _ | prefixSrcIxD _ _
  | prefixSrcIyD _ _ | prefixSrcSpD _ _ | prefixSrcHlD _ _ | prefixSrcPcA _ | prefixDstX _ _
  | prefixDstVw _ _ | prefixDstDe _ | prefixDstHl _ | prefixDstIx _ | prefixDstIy _
  | prefixDstSpDec _ | prefixDstHlC _ | prefixDstIxD _ _ | prefixDstIyD _ _ | prefixDstSpD _ _
  | prefixDstHlD _ _ => exact .fault _ _
  -- the ALU
  | addcAN _ | addcRG _ _ | addcGN _ _ => exact aluReg8_halfBlind .addc
  | addAN _ | addRG _ _ | addGN _ _ => exact aluReg8_halfBlind .add
  | subbAN _ | subbRG _ _ | subbGN _ _ => exact aluReg8_halfBlind .subb
  | subAN _ | subRG _ _ | subGN _ _ => exact aluReg8_halfBlind .sub
  | andAN _ | andRG _ _ | andGN _ _ => exact aluReg8_halfBlind .and
  | xorAN _ | xorRG _ _ | xorGN _ _ => exact aluReg8_halfBlind .xor
  | orAN _ | orRG _ _ | orGN _ _ => exact aluReg8_halfBlind .or
  | cmpAN _ | cmpRG _ _ | cmpGN _ _ => exact aluReg8_halfBlind .cmp
  | addcGgMn _ _ | addcRrGg _ _ => exact aluReg16_halfBlind .addc
  | addGgMn _ _ | addRrGg _ _ => exact aluReg16_halfBlind .add
  | subbGgMn _ _ | subbRrGg _ _ => exact aluReg16_halfBlind .subb
  | subGgMn _ _ | subRrGg _ _ => exact aluReg16_halfBlind .sub
  | andGgMn _ _ | andRrGg _ _ => exact aluReg16_halfBlind .and
  | xorGgMn _ _ | xorRrGg _ _ => exact aluReg16_halfBlind .xor
  | orGgMn _ _ | orRrGg _ _ => exact aluReg16_halfBlind .or
  | cmpGgMn _ _ | cmpRrGg _ _ => exact aluReg16_halfBlind .cmp
  | addcRSrc _ _ | addRSrc _ _ | subbRSrc _ _ | subRSrc _ _ | andRSrc _ _ | xorRSrc _ _
  | orRSrc _ _ | cmpRSrc _ _ => exact withSrcByte_halfBlind fun _ _ => aluReg8_halfBlind _
  | addcRrSrc _ _ | addRrSrc _ _ | subbRrSrc _ _ | subRrSrc _ _ | andRrSrc _ _ | xorRrSrc _ _
  | orRrSrc _ _ | cmpRrSrc _ _ => exact withSrcWord_halfBlind fun _ _ => aluReg16_halfBlind _
  | cmpXN _ _ | addcSrcN _ _ | addSrcN _ _ | subbSrcN _ _ | subSrcN _ _ | andSrcN _ _ | xorSrcN _ _
  | orSrcN _ _ | cmpSrcN _ _ => exact aluSrc8_halfBlind _
  -- what writes registers, flags or PC alone
  | nop | clrCf | setCf | cplCf | ldAR _ | ldRA _ | ldRG _ _ | ldRN _ _ | xchRG _ _ | ldRrMn _ _
  | ldRrGg _ _ | negCs _ | xchRrGg _ _ | ldSpPlusD _ | ldSpMinusD _ | ldGBCf _ _ | swap _ | incR _
  | decR _ | incRr _ | decRr _ | mul _ | div _ | shlc _ | shrc _ | rolc _ | rorc _ | shlca _
  | shrca _ | setGB _ _ | clrGB _ _ | cplGB _ _ | xorCfGB _ _ | ldCfGB _ _ | jpMn _ | jpGg _ =>
    exact .keep rfl
  | ldPswN _ => exact .new _
  | jrsT _ | jrsF _ | jrZ _ | jrNz _ | jrCs _ | jrCc _ | jrLe _ | jrGt _ | jrT _ | jrF _ | jr _
  | jrM _ | jrP _ | jrSlt _ | jrSge _ | jrSle _ | jrSgt _ | jrVs _ | jrVc _ =>
    exact jumpRelative_halfBlind
  -- what accesses memory
  | ldAX _ | ldAHl => exact loadByte_halfBlind fun _ _ => .keep rfl
  | ldRSrc _ _ | xorCfSrcB _ _ => exact withSrcByte_halfBlind fun _ _ => .keep rfl
  | ldCfXB _ _ | ldCfSrcB _ _ | ldCfSrcA _ => exact testSrcBit_halfBlind
  | ldRrSrc _ _ | jpSrc _ => exact withSrcWord_halfBlind fun _ _ => .keep rfl
  | ldXN _ _ | ldHlN _ | ldXA _ | ldHlA => exact storeByte_halfBlind fun _ => .keep rfl
  | ldwXMn _ _ | ldwHlMn _ => exact storeWord_halfBlind fun _ => .keep rfl
  | ldDstR _ _ | ldDstN _ _ => exact toDstByte_halfBlind fun _ => .keep rfl
  | ldDstRr _ _ => exact toDstWord_halfBlind fun _ => .keep rfl
  | xchRSrc _ _ | rold _ | rord _ => exact updateSrcByte_halfBlind fun _ _ => .keep rfl
  | incSrc _ | decSrc _ => exact stepSrc_halfBlind
  | setXB _ _ | clrXB _ _ | ei | di | setSrcB _ _ | clrSrcB _ _ | cplSrcB _ _ | setSrcA _
  | clrSrcA _ | cplSrcA _ => exact changeSrcBit_halfBlind
  | ldSrcBCf _ _ | ldSrcACf _ => exact putSrcBit_halfBlind
  | xchRrSrc _ _ => exact exchangeSrcWord_halfBlind fun _ _ => .keep rfl
  -- the stack, calls, returns
  | pushRr _ | pushGg _ => exact pushReg16_halfBlind
  | popRr _ | popGg _ => exact popReg16_halfBlind
  | popPsw => exact execPopPsw_halfBlind
  | callMn _ | callGg _ => exact callTo_halfBlind
  | callv _ => exact loadWord_halfBlind fun _ _ => callTo_halfBlind
  | callSrc _ => exact execCallSrc_halfBlind
  | ret => exact pop16_halfBlind fun _ _ => .keep rfl
  | reti | retn => exact returnFromHandler_halfBlind s

end Sys2Proof.Machine

open Sys2Proof Sys2Proof.Machine

/-- Settles O18, by cases over the instructions (`exec_halfBlind`). -/
theorem halfCarryIsReadByDecimalAdjustOnly : Obligations.HalfCarryIsReadByDecimalAdjustOnly :=
  fun i s t h hdaa hdas hpush hswi ht => exec_halfBlind i s h hdaa hdas hpush hswi t ht

end

section
/-! PROOFS. O48: IMF is bit 0 of the byte at 003AH (10_state.md R36). An instruction that stores
there leaves in IMF bit 0 of what it stores, by one lemma per store operation; one that does not
leaves IMF as it was (`exec_framed`). -/

namespace Sys2Proof.Machine

/-! ## Bit 0 of what is stored -/

theorem getLsbD_zero_eq_odd {n : Nat} (v : BitVec n) :
    v.getLsbD 0 = decide (v.toNat % 2 = 1) := Nat.testBit_zero _

theorem odd_add (x y : Nat) :
    decide ((x + y) % 2 = 1) = (decide (x % 2 = 1) != decide (y % 2 = 1)) := by
  rw [Bool.eq_iff_iff, bne_iff_ne, decide_eq_true_iff, ne_eq, decide_eq_decide]
  omega

/-- Bit 0 of a sum or a difference is the parity of its three operands. -/
theorem bit0_of_parity {v a b : Byte} {c : Bool}
    (h : v.toNat % 2 = (a.toNat + b.toNat + c.toNat) % 2) :
    v.getLsbD 0 = ((a.getLsbD 0 != b.getLsbD 0) != c) := by
  have hc : c = decide (c.toNat % 2 = 1) := by cases c <;> rfl
  rw [getLsbD_zero_eq_odd, h, odd_add, odd_add, ← hc, ← getLsbD_zero_eq_odd,
    ← getLsbD_zero_eq_odd]

theorem addN_res_bit0 (a b : Byte) (c : Bool) :
    (addN a b c).res.getLsbD 0 = ((a.getLsbD 0 != b.getLsbD 0) != c) := by
  have hres := addN_toNat a b c
  exact bit0_of_parity (by omega)

theorem subN_res_bit0 (a b : Byte) (c : Bool) :
    (subN a b c).res.getLsbD 0 = ((a.getLsbD 0 != b.getLsbD 0) != c) := by
  have hres := subN_toNat a b c
  exact bit0_of_parity (by omega)

theorem incN_bit0 (v : Byte) : (incN v).1.getLsbD 0 = !v.getLsbD 0 := by
  simp only [incN, getLsbD_zero_eq_odd, BitVec.toNat_add]
  rw [← decide_not, decide_eq_decide]
  simp
  omega

theorem decN_bit0 (v : Byte) : (decN v).1.getLsbD 0 = !v.getLsbD 0 := by
  simp only [decN, getLsbD_zero_eq_odd, BitVec.toNat_sub]
  rw [← decide_not, decide_eq_decide]
  simp
  omega

theorem loByte_bit0 (v : Word) : (loByte v).getLsbD 0 = v.getLsbD 0 := by
  simp [loByte]

theorem hiByte_bit0 (v : Word) : (hiByte v).getLsbD 0 = v.getLsbD 8 := by
  simp [hiByte]

theorem bitMask_getLsbD (b : BitVec 3) {k : Nat} (hk : k < 8) :
    (bitMask b).getLsbD k = decide (k = b.toNat) := by
  rw [Bool.eq_iff_iff]
  simp [bitMask, hk]
  omega

theorem isWithBit_bitSet (v : Byte) (b : BitVec 3) : isWithBit v (bitSet v b) b true := by
  intro k hk
  rw [bitSet, BitVec.getLsbD_or, bitMask_getLsbD b hk]
  by_cases h : k = b.toNat <;> simp [h]

theorem isWithBit_bitClear (v : Byte) (b : BitVec 3) : isWithBit v (bitClear v b) b false := by
  intro k hk
  rw [bitClear, BitVec.getLsbD_and, BitVec.getLsbD_not, bitMask_getLsbD b hk]
  by_cases h : k = b.toNat <;> simp [h, hk]

theorem isWithBit_bitFlip (v : Byte) (b : BitVec 3) :
    isWithBit v (bitFlip v b) b (!v.getLsbD b.toNat) := by
  intro k hk
  rw [bitFlip, BitVec.getLsbD_xor, bitMask_getLsbD b hk]
  by_cases h : k = b.toNat <;> simp [h]

theorem isWithBit_bitPut (v : Byte) (b : BitVec 3) (c : Bool) : isWithBit v (bitPut v b c) b c := by
  cases c
  · exact isWithBit_bitClear v b
  · exact isWithBit_bitSet v b

/-- Bit 0 after bit b is written: b is 0 or bit 0 is as before. -/
theorem isWithBit.bit0 {old new : Byte} {b : BitVec 3} {c : Bool} {P : Prop} [Decidable P]
    (hP : P ↔ b = 0) (h : isWithBit old new b c) :
    new.getLsbD 0 = if P then c else old.getLsbD 0 := by
  have hb : P ↔ 0 = b.toNat := by
    rw [hP, ← BitVec.toNat_inj]
    exact eq_comm
  simp only [hb]
  exact h 0 (by omega)

theorem bitFlip_bit0 {v : Byte} {b : BitVec 3} {P : Prop} [Decidable P] (hP : P ↔ b = 0) :
    (bitFlip v b).getLsbD 0 = if P then !v.getLsbD 0 else v.getLsbD 0 := by
  rw [(isWithBit_bitFlip v b).bit0 hP]
  split
  · rw [hP.1 ‹_›]
    rfl
  · rfl

/-- The bit number in A is 0 exactly when A is a multiple of 8 (44 R350 (1)). -/
theorem bitNumberA_eq_zero (s : State) : s.regs.a.toNat % 8 = 0 ↔ bitNumberA s = 0 := by
  rw [← BitVec.toNat_inj]
  simp [bitNumberA]

theorem mkByte_bit0 (hi lo : BitVec 4) : (mkByte hi lo).getLsbD 0 = lo.getLsbD 0 := by
  simp only [mkByte, BitVec.getLsbD_append]
  simp

theorem loNibble_bit0 (v : Byte) : (loNibble v).getLsbD 0 = v.getLsbD 0 := by simp [loNibble]

theorem hiNibble_bit0 (v : Byte) : (hiNibble v).getLsbD 0 = v.getLsbD 4 := by simp [hiNibble]

/-! ## IMF after a store -/

theorem imf_of_mem {s t : State} (h : t.mem = s.mem) : t.imf = s.imf := by
  unfold State.imf State.byteAt
  rw [h]

section Imf
variable {s : State}

theorem imf_setByte (hw : Memory.wf s.mem = true) (v : Byte) :
    (s.setByte imfAddress v).imf = v.getLsbD 0 :=
  congrArg (bitOf · 0) (State.byteAt_setByte_same s imfAddress v hw)

theorem imf_setByte_other {a : Word} (ha : imfAddress ≠ a) (v : Byte) :
    (s.setByte a v).imf = s.imf :=
  congrArg (bitOf · 0) (State.byteAt_setByte_other s a imfAddress v ha)

/-- A word stored at 003AH: its low byte lies there. -/
theorem imf_setWord_low (hw : Memory.wf s.mem = true) (v : Word) :
    (s.setWord imfAddress v).imf = v.getLsbD 0 := by
  rw [State.setWord, imf_setByte_other (by decide), imf_setByte hw, loByte_bit0]

/-- A word stored at 0039H: its high byte lies at 003AH. -/
theorem imf_setWord_high (hw : Memory.wf s.mem = true) (v : Word) :
    (s.setWord 0x0039 v).imf = v.getLsbD 8 :=
  (imf_setByte (Memory.wf_setByte _ _ hw) _).trans (hiByte_bit0 v)

/-- A word pushed with SP at 003AH: its high byte lies there. -/
theorem imf_pushed_high (hw : Memory.wf s.mem = true) (hsp : s.sp = imfAddress) (v : Word) :
    (s.pushed v).imf = v.getLsbD 8 := by
  unfold State.pushed
  rw [imf_of_mem (State.putSp_mem _ _), hsp, imf_setByte_other (by decide), imf_setByte hw,
    hiByte_bit0]

/-- A word pushed with SP at 003BH: its low byte lies at 003AH. -/
theorem imf_pushed_low (hw : Memory.wf s.mem = true) (hsp : s.sp = 0x003B) (v : Word) :
    (s.pushed v).imf = v.getLsbD 0 := by
  unfold State.pushed
  rw [imf_of_mem (State.putSp_mem _ _), hsp]
  exact (imf_setByte (Memory.wf_setByte _ _ hw) _).trans (loByte_bit0 v)

end Imf

/-! ## Instructions that end in a store -/

/-- k answers a next state with the memory it was given. -/
def KeepsMem (k : State → Result) : Prop := ∀ t, ∃ u, k t = .next u ∧ u.mem = t.mem

theorem KeepsMem.leavesImf {k : State → Result} (hk : KeepsMem k) {t : State} {c : Bool}
    (h : t.imf = c) : leavesImf (k t) c := by
  obtain ⟨u, hu, hmem⟩ := hk t
  exact ⟨u, hu, (imf_of_mem hmem).trans h⟩

theorem transferred_keepsMem (len : Nat) : KeepsMem (transferred len) := fun _ => ⟨_, rfl, rfl⟩

theorem KeepsMem.dstEnd {k : State → Result} (hk : KeepsMem k) (m : Dst) :
    KeepsMem fun t => k (dstEnd m t) := fun t => by
  obtain ⟨u, hu, hmem⟩ := hk (Machine.dstEnd m t)
  exact ⟨u, hu, hmem.trans (dstEnd_mem m t)⟩

section Store
variable {s : State} (h : s.allRam) (hw : Memory.wf s.mem = true) {c : Bool} {k : State → Result}
include h hw

theorem storeByte_leavesImf {a : Word} {v : Byte} (ha : a = imfAddress) (hv : v.getLsbD 0 = c)
    (hk : KeepsMem k) : leavesImf (storeByte a v s k) c := by
  subst ha
  rw [storeByte_ram (h _)]
  exact hk.leavesImf ((imf_setByte hw v).trans hv)

theorem storeWord_leavesImf_low {a v : Word} (ha : a = imfAddress) (hk : KeepsMem k) :
    leavesImf (storeWord a v s k) (v.getLsbD 0) := by
  subst ha
  rw [storeWord_allRam h]
  exact hk.leavesImf (imf_setWord_low hw v)

theorem storeWord_leavesImf_high {a v : Word} (ha : a = 0x0039) (hk : KeepsMem k) :
    leavesImf (storeWord a v s k) (v.getLsbD 8) := by
  subst ha
  rw [storeWord_allRam h]
  exact hk.leavesImf (imf_setWord_high hw v)

theorem push16_leavesImf_high (v : Word) (hsp : s.sp = imfAddress) (hk : KeepsMem k) :
    leavesImf (push16 v s k) (v.getLsbD 8) := by
  rw [push16_allRam h]
  exact hk.leavesImf (imf_pushed_high hw hsp v)

theorem push16_leavesImf_low (v : Word) (hsp : s.sp = 0x003B) (hk : KeepsMem k) :
    leavesImf (push16 v s k) (v.getLsbD 0) := by
  rw [push16_allRam h]
  exact hk.leavesImf (imf_pushed_low hw hsp v)

theorem toDstByte_leavesImf {m : Dst} {v : Byte} (ha : dstAddr m s = imfAddress)
    (hv : v.getLsbD 0 = c) (hk : KeepsMem k) : leavesImf (toDstByte m v s k) c :=
  storeByte_leavesImf h hw ha hv (hk.dstEnd m)

theorem toDstWord_leavesImf_low {m : Dst} {v : Word} (ha : dstAddr m s = imfAddress)
    (hk : KeepsMem k) : leavesImf (toDstWord m v s k) (v.getLsbD 0) :=
  storeWord_leavesImf_low h hw ha (hk.dstEnd m)

theorem toDstWord_leavesImf_high {m : Dst} {v : Word} (ha : dstAddr m s = 0x0039)
    (hk : KeepsMem k) : leavesImf (toDstWord m v s k) (v.getLsbD 8) :=
  storeWord_leavesImf_high h hw ha (hk.dstEnd m)

/-- A read-modify-write of the byte at 003AH leaves bit 0 of what it writes back. -/
theorem updateSrcByte_leavesImf {m : Src} {f : Byte → Byte} {k : Byte → State → Result}
    (ha : srcAddr m s = imfAddress) (hf : (f (s.byteAt imfAddress)).getLsbD 0 = c)
    (hk : ∀ v, KeepsMem (k v)) : leavesImf (updateSrcByte m f s k) c := by
  rw [updateSrcByte_allRam h, ha]
  exact (hk _).leavesImf ((imf_setByte (by simpa using hw) _).trans hf)

theorem exchangeSrcWord_leavesImf_low {m : Src} {f : State → Word} {k : Word → State → Result}
    (ha : srcAddr m s = imfAddress) (hk : ∀ v, KeepsMem (k v)) :
    leavesImf (exchangeSrcWord m f s k) ((f (srcBegin m s)).getLsbD 0) := by
  rw [exchangeSrcWord_allRam h, ha]
  exact (hk _).leavesImf (imf_setWord_low (by simpa using hw) _)

theorem exchangeSrcWord_leavesImf_high {m : Src} {f : State → Word} {k : Word → State → Result}
    (ha : srcAddr m s = 0x0039) (hk : ∀ v, KeepsMem (k v)) :
    leavesImf (exchangeSrcWord m f s k) ((f (srcBegin m s)).getLsbD 8) := by
  rw [exchangeSrcWord_allRam h, ha]
  exact (hk _).leavesImf (imf_setWord_high (by simpa using hw) _)

theorem aluSrc8_leavesImf (op : AluOp) (hop : op ≠ .cmp) (m : Src) (n : Byte) {len : Nat}
    (ha : srcAddr m s = imfAddress)
    (hf : (alu8 op (s.byteAt imfAddress) n s.psw).1.getLsbD 0 = c) :
    leavesImf (aluSrc8 op m n len s) c := by
  rw [aluSrc8, if_neg hop]
  exact updateSrcByte_leavesImf h hw ha hf fun _ _ => ⟨_, rfl, rfl⟩

theorem changeSrcBit_leavesImf (f : Byte → BitVec 3 → Byte) (m : Src) (b : BitVec 3) {len : Nat}
    (ha : srcAddr m s = imfAddress) (hf : (f (s.byteAt imfAddress) b).getLsbD 0 = c) :
    leavesImf (changeSrcBit f m b len s) c :=
  updateSrcByte_leavesImf h hw ha hf fun _ _ => ⟨_, rfl, rfl⟩

theorem putSrcBit_leavesImf (m : Src) (b : BitVec 3) (ha : srcAddr m s = imfAddress)
    (hf : (bitPut (s.byteAt imfAddress) b s.psw.cf).getLsbD 0 = c) :
    leavesImf (putSrcBit m b s) c :=
  updateSrcByte_leavesImf h hw ha hf fun _ _ => ⟨_, rfl, rfl⟩

theorem stepSrc_leavesImf (f : Byte → Byte × Bool × Bool) (m : Src)
    (ha : srcAddr m s = imfAddress)
    (hf : (f (s.byteAt imfAddress)).1.getLsbD 0 = c) : leavesImf (stepSrc f m s) c :=
  updateSrcByte_leavesImf h hw ha hf fun _ _ => ⟨_, rfl, rfl⟩

theorem execRold_leavesImf {m : Src} (ha : srcAddr m s = imfAddress) :
    leavesImf (execRold m s) (s.regs.a.getLsbD 0) :=
  updateSrcByte_leavesImf h hw ha ((mkByte_bit0 _ _).trans (loNibble_bit0 _)) fun _ _ =>
    ⟨_, rfl, rfl⟩

theorem execRord_leavesImf {m : Src} (ha : srcAddr m s = imfAddress) :
    leavesImf (execRord m s) ((s.byteAt imfAddress).getLsbD 4) :=
  updateSrcByte_leavesImf h hw ha ((mkByte_bit0 _ _).trans (hiNibble_bit0 _)) fun _ _ =>
    ⟨_, rfl, rfl⟩

theorem execXchRSrc_leavesImf {r : Reg8} {m : Src} (ha : srcAddr m s = imfAddress) :
    leavesImf (execXchRSrc r m s) ((s.get8 r).getLsbD 0) :=
  updateSrcByte_leavesImf h hw ha rfl fun _ _ => ⟨_, rfl, rfl⟩

theorem execXchRrSrc_leavesImf_low {rr : Reg16} {m : Src} (ha : srcAddr m s = imfAddress) :
    leavesImf (execXchRrSrc rr m s) (((srcBegin m s).get16 rr).getLsbD 0) :=
  exchangeSrcWord_leavesImf_low h hw ha fun _ _ => ⟨_, rfl, rfl⟩

theorem execXchRrSrc_leavesImf_high {rr : Reg16} {m : Src} (ha : srcAddr m s = 0x0039) :
    leavesImf (execXchRrSrc rr m s) (((srcBegin m s).get16 rr).getLsbD 8) :=
  exchangeSrcWord_leavesImf_high h hw ha fun _ _ => ⟨_, rfl, rfl⟩

theorem pushReg16_leavesImf_high {rr : Reg16} {len : Nat} (hsp : s.sp = imfAddress) :
    leavesImf (pushReg16 rr len s) ((s.get16 rr).getLsbD 8) :=
  push16_leavesImf_high h hw _ hsp fun _ => ⟨_, rfl, rfl⟩

theorem pushReg16_leavesImf_low {rr : Reg16} {len : Nat} (hsp : s.sp = 0x003B) :
    leavesImf (pushReg16 rr len s) ((s.get16 rr).getLsbD 0) :=
  push16_leavesImf_low h hw _ hsp fun _ => ⟨_, rfl, rfl⟩

theorem callTo_leavesImf_high {target : Word} {len : Nat} (hsp : s.sp = imfAddress) :
    leavesImf (callTo target len s) ((s.pc + BitVec.ofNat 16 len).getLsbD 8) :=
  push16_leavesImf_high h hw _ hsp fun _ => ⟨_, rfl, rfl⟩

theorem callTo_leavesImf_low {target : Word} {len : Nat} (hsp : s.sp = 0x003B) :
    leavesImf (callTo target len s) ((s.pc + BitVec.ofNat 16 len).getLsbD 0) :=
  push16_leavesImf_low h hw _ hsp fun _ => ⟨_, rfl, rfl⟩

end Store

/-- SET, CLR or CPL of a bit of memory under the default regions (44 R353, R356, R359). -/
theorem changeSrcBit_changesMemBit {s : State} (h : s.allRam) {f : Byte → BitVec 3 → Byte} {m : Src}
    {b : BitVec 3} {c : Bool} {len : Nat}
    (hf : isWithBit (s.byteAt (srcAddr m s)) (f (s.byteAt (srcAddr m s)) b) b c) :
    changesMemBit (changeSrcBit f m b len s) (srcBegin m s) (srcAddr m s) b c len := by
  refine ⟨f (s.byteAt (srcAddr m s)) b, by simpa using hf, ?_⟩
  rw [changeSrcBit, updateSrcByte_allRam h, srcBegin_byteAt]
  rfl

end Sys2Proof.Machine

open Sys2Proof Sys2Proof.Machine

/-- Settles O48. What is not stored at 003AH leaves IMF by the frame of every instruction
(`exec_framed`); what is stored there leaves bit 0 of it, by one lemma per store operation. -/
theorem interruptEnableIsABitOfMemory : Obligations.InterruptEnableIsABitOfMemory := by
  refine ⟨fun i s t ht => ⟨rfl, fun hi => ?_⟩, fun s n mn r rr m e b h hw => ?_⟩
  · obtain ⟨-, hbytes, -⟩ := exec_framed i s t ht
    exact congrArg (bitOf · 0) (hbytes _ hi)
  have hset (b : BitVec 3) := isWithBit_bitSet (s.byteAt imfAddress) b
  have hclr (b : BitVec 3) := isWithBit_bitClear (s.byteAt imfAddress) b
  have hput (b : BitVec 3) := isWithBit_bitPut (s.byteAt imfAddress) b s.psw.cf
  have hA := bitNumberA_eq_zero s
  refine ⟨changeSrcBit_changesMemBit h (hset 0), changeSrcBit_changesMemBit h (hclr 0),
    changeSrcBit_leavesImf h hw bitSet (.dir8 0x3A) 0 rfl ((hset 0).bit0 Iff.rfl),
    changeSrcBit_leavesImf h hw bitClear (.dir8 0x3A) 0 rfl ((hclr 0).bit0 Iff.rfl),
    storeByte_leavesImf h hw rfl rfl (transferred_keepsMem 3),
    storeByte_leavesImf h hw rfl rfl (transferred_keepsMem 2),
    storeWord_leavesImf_low h hw rfl (transferred_keepsMem 4),
    storeWord_leavesImf_high h hw rfl (transferred_keepsMem 4), fun hhl => ⟨?_, ?_, ?_⟩,
    fun hhl => storeWord_leavesImf_high h hw hhl (transferred_keepsMem 3), fun ha => ⟨?_, ?_, ?_⟩,
    fun ha => toDstWord_leavesImf_high h hw ha (transferred_keepsMem _), fun ha => ?_,
    fun ha => execXchRrSrc_leavesImf_high h hw ha,
    fun hsp => ⟨pushReg16_leavesImf_high h hw hsp, callTo_leavesImf_high h hw hsp⟩,
    fun hsp => ⟨pushReg16_leavesImf_low h hw hsp, callTo_leavesImf_low h hw hsp⟩⟩
  · exact storeByte_leavesImf h hw hhl rfl (transferred_keepsMem 2)
  · exact storeByte_leavesImf h hw hhl rfl (transferred_keepsMem 1)
  · exact storeWord_leavesImf_low h hw hhl (transferred_keepsMem 3)
  · exact toDstByte_leavesImf h hw ha rfl (transferred_keepsMem _)
  · exact toDstByte_leavesImf h hw ha rfl (transferred_keepsMem _)
  · exact toDstWord_leavesImf_low h hw ha (transferred_keepsMem _)
  · exact ⟨aluSrc8_leavesImf h hw .and (by decide) m n ha (BitVec.getLsbD_and ..),
      aluSrc8_leavesImf h hw .or (by decide) m n ha (BitVec.getLsbD_or ..),
      aluSrc8_leavesImf h hw .xor (by decide) m n ha (BitVec.getLsbD_xor ..),
      aluSrc8_leavesImf h hw .add (by decide) m n ha
        ((addN_res_bit0 _ n false).trans (Bool.bne_false _)),
      aluSrc8_leavesImf h hw .sub (by decide) m n ha
        ((subN_res_bit0 _ n false).trans (Bool.bne_false _)),
      aluSrc8_leavesImf h hw .addc (by decide) m n ha (addN_res_bit0 _ n s.psw.cf),
      aluSrc8_leavesImf h hw .subb (by decide) m n ha (subN_res_bit0 _ n s.psw.cf),
      stepSrc_leavesImf h hw incN m ha (incN_bit0 _),
      stepSrc_leavesImf h hw decN m ha (decN_bit0 _),
      changeSrcBit_leavesImf h hw bitSet m b ha ((hset b).bit0 Iff.rfl),
      changeSrcBit_leavesImf h hw bitClear m b ha ((hclr b).bit0 Iff.rfl),
      changeSrcBit_leavesImf h hw bitFlip m b ha (bitFlip_bit0 Iff.rfl),
      putSrcBit_leavesImf h hw m b ha ((hput b).bit0 Iff.rfl),
      changeSrcBit_leavesImf h hw bitSet m _ ha ((hset _).bit0 hA),
      changeSrcBit_leavesImf h hw bitClear m _ ha ((hclr _).bit0 hA),
      changeSrcBit_leavesImf h hw bitFlip m _ ha (bitFlip_bit0 hA),
      putSrcBit_leavesImf h hw m _ ha ((hput _).bit0 hA), execRold_leavesImf h hw ha,
      execRord_leavesImf h hw ha, execXchRSrc_leavesImf h hw ha,
      execXchRrSrc_leavesImf_low h hw ha⟩

end

section
/-! PROOFS. O9, O10, O12, O13, O16: which bytes an instruction accesses. `Accesses s x ld st` says
that x comes of s by loads from the addresses ld and stores to the addresses st, all of them and no
others; each shared operation has it said once, and one case split over the instructions gives it
for `exec`. What such a run keeps, and when it stops, are inductions over its accesses. -/

namespace Sys2Proof.Machine

/-! ## Runs of byte accesses -/

/-- Nothing an access reads or writes differs, nor does what a reset loads: registers, PC, flags and
the number of drawn values may. -/
structure Still (s t : State) : Prop where
  mem : t.mem = s.mem
  regions : t.regions = s.regions
  deviceLog : t.deviceLog = s.deviceLog
  launch : t.launch = s.launch

theorem Still.kindAt {s t : State} (h : Still s t) (a : Word) : t.kindAt a = s.kindAt a :=
  congrArg (kindIn · a) h.regions

theorem Still.byteAt {s t : State} (h : Still s t) (a : Word) : t.byteAt a = s.byteAt a :=
  congrArg (Memory.get · a.toNat) h.mem

theorem Still.srcBegin (m : Src) (s : State) : Still s (srcBegin m s) :=
  ⟨srcBegin_mem m s, srcBegin_regions m s, srcBegin_deviceLog m s, srcBegin_launch m s⟩

theorem Still.dstEnd (m : Dst) (s : State) : Still s (dstEnd m s) :=
  ⟨dstEnd_mem m s, dstEnd_regions m s, dstEnd_deviceLog m s, dstEnd_launch m s⟩

/-- x comes of s by loads from the addresses ld and stores to the addresses st, and ends in a next
state when none of them stops it (20_memory.md R59). -/
inductive Accesses : State → Result → List Word → List Word → Prop
  | next {s t : State} (h : Still s t) : Accesses s (.next t) [] []
  | still {ld st : List Word} {s t : State} {x : Result} (h : Still s t)
      (hx : Accesses t x ld st) : Accesses s x ld st
  | load {ld st : List Word} {a : Word} {s : State} {k : Byte → State → Result}
      (h : ∀ v t, Loaded a s v t → Accesses t (k v t) ld st) :
      Accesses s (loadByte a s k) (a :: ld) st
  | store {ld st : List Word} {a : Word} {v : Byte} {s : State} {k : State → Result}
      (h : ∀ t, Stored a v s t → Accesses t (k t) ld st) :
      Accesses s (storeByte a v s k) ld (a :: st)
  | reloaded {ld ld' st : List Word} {s : State} {x : Result} (hld : ∀ a, a ∈ ld' ↔ a ∈ ld)
      (hx : Accesses s x ld st) : Accesses s x ld' st

/-- The usual end of a run: registers, PC, flags and the number of drawn values written. -/
theorem Accesses.done {s t : State} (h : Still s t := by exact ⟨rfl, rfl, rfl, rfl⟩) :
    Accesses s (.next t) [] [] := .next h

/-! ## What such a run keeps -/

theorem Loaded.inv {a : Word} {s t : State} {v : Byte} (h : Loaded a s v t) (hs : s.Inv) : t.Inv :=
  ⟨h.mem ▸ hs.1, h.launch ▸ hs.2⟩

theorem Stored.inv {a : Word} {s t : State} {v : Byte} (h : Stored a v s t) (hs : s.Inv) : t.Inv :=
  ⟨h.wf hs.1, h.launch ▸ hs.2⟩

/-- A store changes no byte but in `ram` (20_memory.md R59). -/
theorem Stored.byteAt_of_not_ram {a b : Word} {s t : State} {v : Byte} (h : Stored a v s t)
    (hb : s.kindAt b ≠ .ram) : t.byteAt b = s.byteAt b := by
  cases h with
  | ram ha => exact State.byteAt_setByte_other _ _ _ _ fun e => hb (e ▸ ha)
  | rom _ => rfl
  | device _ => rfl

theorem Loaded.deviceLog_of_not_device {a : Word} {s t : State} {v : Byte} (h : Loaded a s v t)
    (ha : s.kindAt a ≠ .device) : t.deviceLog = s.deviceLog := by
  cases h with
  | plain _ => rfl
  | device h => exact absurd h ha

theorem Stored.deviceLog_of_not_device {a : Word} {s t : State} {v : Byte} (h : Stored a v s t)
    (ha : s.kindAt a ≠ .device) : t.deviceLog = s.deviceLog := by
  cases h with
  | ram _ => rfl
  | rom _ => rfl
  | device h => exact absurd h ha

theorem mem_append_cons_of_mem {a c : Word} {ld st : List Word} (ha : a ∈ ld ++ st) :
    a ∈ ld ++ c :: st := ((List.sublist_cons_self c st).append_left ld).subset ha

/-- Where x is a next state, it meets the invariant if s does. -/
def KeepsInv (x : Result) (s : State) : Prop := ∀ t, x = .next t → s.Inv → t.Inv

section Kept
variable {ld st : List Word} {s : State} {x : Result}

theorem Accesses.keepsInv (h : Accesses s x ld st) : KeepsInv x s := by
  induction h with
  | next hst =>
    rintro _ ⟨⟩ hs
    exact ⟨hst.mem ▸ hs.1, hst.launch ▸ hs.2⟩
  | still hst _ ih => exact fun u hu hs => ih u hu ⟨hst.mem ▸ hs.1, hst.launch ▸ hs.2⟩
  | load _ ih =>
    intro u hu hs
    obtain ⟨v, t, ht, hk⟩ := loadByte_next hu
    exact ih v t ht u hk (ht.inv hs)
  | store _ ih =>
    intro u hu hs
    obtain ⟨t, ht, hk⟩ := storeByte_next hu
    exact ih t ht u hk (ht.inv hs)
  | reloaded _ _ ih => exact ih

theorem Accesses.byteAt_of_not_ram (h : Accesses s x ld st) {u : State} (hu : x = .next u)
    {b : Word} (hb : s.kindAt b ≠ .ram) : u.byteAt b = s.byteAt b := by
  induction h with
  | next hst =>
    cases hu
    exact hst.byteAt b
  | still hst _ ih => exact (ih hu (hst.kindAt b ▸ hb)).trans (hst.byteAt b)
  | load _ ih =>
    obtain ⟨v, t, ht, hk⟩ := loadByte_next hu
    exact (ih v t ht hk (ht.kindAt b ▸ hb)).trans (ht.byteAt b)
  | store _ ih =>
    obtain ⟨t, ht, hk⟩ := storeByte_next hu
    exact (ih t ht hk (ht.kindAt b ▸ hb)).trans (ht.byteAt_of_not_ram hb)
  | reloaded _ _ ih => exact ih hu hb

/-- A run without a store leaves memory. -/
theorem Accesses.mem_of_no_store (h : Accesses s x ld st) {u : State} (hu : x = .next u)
    (hnil : st = []) : u.mem = s.mem := by
  induction h with
  | next hst =>
    cases hu
    exact hst.mem
  | still hst _ ih => exact (ih hu hnil).trans hst.mem
  | load _ ih =>
    obtain ⟨v, t, ht, hk⟩ := loadByte_next hu
    exact (ih v t ht hk hnil).trans ht.mem
  | store _ _ => cases hnil
  | reloaded _ _ ih => exact ih hu hnil

/-- A run that accesses no device leaves the record of device accesses. -/
theorem Accesses.deviceLog_of_no_device (h : Accesses s x ld st) {u : State} (hu : x = .next u)
    (hdev : ∀ a ∈ ld ++ st, s.kindAt a ≠ .device) : u.deviceLog = s.deviceLog := by
  induction h with
  | next hst =>
    cases hu
    exact hst.deviceLog
  | still hst _ ih =>
    exact (ih hu fun a ha => hst.kindAt a ▸ hdev a ha).trans hst.deviceLog
  | load _ ih =>
    obtain ⟨v, t, ht, hk⟩ := loadByte_next hu
    exact (ih v t ht hk fun a ha => ht.kindAt a ▸ hdev a (.tail _ ha)).trans
      (ht.deviceLog_of_not_device (hdev _ (.head _)))
  | store _ ih =>
    obtain ⟨t, ht, hk⟩ := storeByte_next hu
    exact (ih t ht hk fun a ha => ht.kindAt a ▸ hdev a (mem_append_cons_of_mem ha)).trans
      (ht.deviceLog_of_not_device (hdev _ List.mem_append_cons_self))
  | reloaded hld _ ih => exact ih hu fun a ha => hdev a (by simpa [hld] using ha)

/-! ## When such a run stops -/

theorem Accesses.goes (h : Accesses s x ld st) (hs : s.noAbsent) : ∃ u, x = .next u := by
  induction h with
  | next _ => exact ⟨_, rfl⟩
  | still hst _ ih => exact ih fun a => hst.kindAt a ▸ hs a
  | load _ ih =>
    obtain ⟨v, t, ht, hk⟩ := loadByte_goes (hs _) _
    exact hk ▸ ih v t ht fun a => ht.kindAt a ▸ hs a
  | store _ ih =>
    obtain ⟨t, ht, hk⟩ := storeByte_goes (hs _) _
    exact hk ▸ ih t ht fun a => ht.kindAt a ▸ hs a
  | reloaded _ _ ih => exact ih hs

/-- A run stops at an absent address that it accesses (D12). -/
theorem Accesses.fault_cause (h : Accesses s x ld st) {f : Fault} (hf : x = .fault f) :
    ∃ a ∈ ld ++ st, s.kindAt a = .absent ∧ f = .absentMemory a := by
  induction h with
  | next _ => cases hf
  | still hst _ ih =>
    obtain ⟨a, ha, habs, hfa⟩ := ih hf
    exact ⟨a, ha, hst.kindAt a ▸ habs, hfa⟩
  | load _ ih =>
    obtain ⟨habs, hfa⟩ | ⟨v, t, ht, hk⟩ := loadByte_fault hf
    · exact ⟨_, .head _, habs, hfa⟩
    · obtain ⟨a, ha, habs, hfa⟩ := ih v t ht hk
      exact ⟨a, .tail _ ha, ht.kindAt a ▸ habs, hfa⟩
  | store _ ih =>
    obtain ⟨habs, hfa⟩ | ⟨t, ht, hk⟩ := storeByte_fault hf
    · exact ⟨_, List.mem_append_cons_self, habs, hfa⟩
    · obtain ⟨a, ha, habs, hfa⟩ := ih t ht hk
      exact ⟨a, mem_append_cons_of_mem ha, ht.kindAt a ▸ habs, hfa⟩
  | reloaded hld _ ih =>
    obtain ⟨a, ha, habs⟩ := ih hf
    exact ⟨a, by simpa [hld] using ha, habs⟩

/-- A run that accesses an absent address stops (D12). -/
theorem Accesses.stops (h : Accesses s x ld st) {a : Word} (ha : a ∈ ld ++ st)
    (habs : s.kindAt a = .absent) : ∃ b, x = .fault (.absentMemory b) := by
  induction h with
  | next _ => cases ha
  | still hst _ ih => exact ih ha (hst.kindAt a ▸ habs)
  | @load ld st c s k _ ih =>
    by_cases hc : s.kindAt c = .absent
    · exact ⟨c, loadByte_absent hc k⟩
    · obtain ⟨v, t, ht, hk⟩ := loadByte_goes hc k
      have hne : a ≠ c := fun e => hc (e ▸ habs)
      exact hk ▸ ih v t ht (by simpa [hne] using ha) (ht.kindAt a ▸ habs)
  | @store ld st c v s k _ ih =>
    by_cases hc : s.kindAt c = .absent
    · exact ⟨c, storeByte_absent hc v k⟩
    · obtain ⟨t, ht, hk⟩ := storeByte_goes hc k
      have hne : a ≠ c := fun e => hc (e ▸ habs)
      exact hk ▸ ih t ht (by simpa [hne] using ha) (ht.kindAt a ▸ habs)
  | reloaded hld _ ih => exact ih (by simpa [hld] using ha) habs

theorem Accesses.not_refused (h : Accesses s x ld st) (r : Refusal) : x ≠ .refused r := by
  induction h with
  | next _ => rintro ⟨⟩
  | still _ _ ih => exact ih
  | load _ ih =>
    intro hr
    obtain ⟨v, t, ht, hk⟩ := loadByte_refused hr
    exact ih v t ht hk
  | store _ ih =>
    intro hr
    obtain ⟨t, ht, hk⟩ := storeByte_refused hr
    exact ih t ht hk
  | reloaded _ _ ih => exact ih

end Kept

/-! ## Memory, the stack, handlers -/

section Access
variable {ld st : List Word} {s : State}

theorem loadWord_accesses {a : Word} {k : Word → State → Result}
    (h : ∀ v t, t.regs = s.regs → Accesses t (k v t) ld st) :
    Accesses s (loadWord a s k) (a :: (a + 1) :: ld) st :=
  .load fun _ _ ht => .load fun _ u hu => h _ u (hu.regs.trans ht.regs)

theorem storeWord_accesses {a v : Word} {k : State → Result}
    (h : ∀ t, Accesses t (k t) ld st) :
    Accesses s (storeWord a v s k) ld (a :: (a + 1) :: st) :=
  .store fun _ _ => .store fun t _ => h t

theorem push16_accesses {v : Word} {k : State → Result} (h : ∀ t, Accesses t (k t) ld st) :
    Accesses s (push16 v s k) ld (s.sp :: (s.sp - 1) :: st) := by
  refine .store fun t ht => ?_
  rw [← State.sp_eq_of_regs ht.regs]
  exact .store fun u _ => .still (t := u.putSp (u.sp - 2)) ⟨rfl, rfl, rfl, rfl⟩ (h _)

theorem pop16_accesses {k : Word → State → Result} (h : ∀ v t, Accesses t (k v t) ld st) :
    Accesses s (pop16 s k) ((s.sp + 1) :: (s.sp + 2) :: ld) st := by
  have hlow : s.sp + 1 = s.sp + 2 - 1 := by bv_omega
  rw [hlow]
  unfold pop16
  refine .still (t := s.putSp (s.sp + 2)) ⟨rfl, rfl, rfl, rfl⟩ (.load fun lo t ht => ?_)
  have hsp : s.sp + 2 = t.sp := (State.sp_eq_of_regs ht.regs).symm
  rw [hsp]
  exact .load fun _ u _ => h _ u

theorem storeImf_accesses {c : Bool} {k : State → Result} (h : ∀ t, Accesses t (k t) ld st) :
    Accesses s (storeImf c s k) (imfAddress :: ld) (imfAddress :: st) :=
  .load fun _ _ _ => .store fun t _ => h t

theorem withSrcByte_accesses {m : Src} {k : Byte → State → Result}
    (h : ∀ v t, Accesses t (k v t) ld st) :
    Accesses s (withSrcByte m s k) (srcAddr m s :: ld) st :=
  .still (.srcBegin m s) (.load fun v t _ => h v t)

theorem withSrcWord_accesses {m : Src} {k : Word → State → Result}
    (h : ∀ v t, t.regs = (srcBegin m s).regs → Accesses t (k v t) ld st) :
    Accesses s (withSrcWord m s k) (srcAddr m s :: (srcAddr m s + 1) :: ld) st :=
  .still (.srcBegin m s) (loadWord_accesses h)

theorem toDstByte_accesses {m : Dst} {v : Byte} {k : State → Result}
    (h : ∀ t, Accesses t (k t) ld st) :
    Accesses s (toDstByte m v s k) ld (dstAddr m s :: st) :=
  .store fun t _ => .still (.dstEnd m t) (h _)

theorem toDstWord_accesses {m : Dst} {v : Word} {k : State → Result}
    (h : ∀ t, Accesses t (k t) ld st) :
    Accesses s (toDstWord m v s k) ld (dstAddr m s :: (dstAddr m s + 1) :: st) :=
  storeWord_accesses fun t => .still (.dstEnd m t) (h _)

theorem updateSrcByte_accesses {m : Src} {f : Byte → Byte} {k : Byte → State → Result}
    (h : ∀ v t, Accesses t (k v t) ld st) :
    Accesses s (updateSrcByte m f s k) (srcAddr m s :: ld) (srcAddr m s :: st) :=
  .still (.srcBegin m s) (.load fun v _ _ => .store fun t _ => h v t)

theorem exchangeSrcWord_accesses {m : Src} {f : State → Word} {k : Word → State → Result}
    (h : ∀ v t, Accesses t (k v t) ld st) :
    Accesses s (exchangeSrcWord m f s k) (srcAddr m s :: (srcAddr m s + 1) :: ld)
      (srcAddr m s :: (srcAddr m s + 1) :: st) :=
  .still (.srcBegin m s) (loadWord_accesses fun v _ _ => storeWord_accesses (h v))

end Access

/-- The byte at 003AH is loaded twice: for the frame, and to clear IMF (46 R443). -/
theorem enterHandler_accesses (ra vector : Word) (s : State) :
    Accesses s (enterHandler ra vector s) [imfAddress, vector, vector + 1]
      [s.sp, s.sp - 1, s.sp - 2, imfAddress] := by
  refine .reloaded (ld := [imfAddress, imfAddress, vector, vector + 1]) (by simp) ?_
  unfold enterHandler loadImf
  refine .load fun _ t₁ h₁ => .still (t := t₁.drew 1) ⟨rfl, rfl, rfl, rfl⟩ ?_
  rw [← State.sp_eq_of_regs h₁.regs]
  refine .store fun t₂ h₂ => ?_
  rw [← (State.sp_eq_of_regs h₂.regs : t₂.sp = t₁.sp)]
  refine .store fun t₃ h₃ => ?_
  rw [← State.sp_eq_of_regs h₃.regs]
  refine .store fun t₄ _ => .still (t := t₄.putSp (t₄.sp - 3)) ⟨rfl, rfl, rfl, rfl⟩ ?_
  exact storeImf_accesses fun _ => loadWord_accesses fun _ _ _ => .done

theorem returnFromHandler_accesses (s : State) :
    Accesses s (returnFromHandler s) [s.sp + 1, s.sp + 2, s.sp + 3, imfAddress] [imfAddress] := by
  have hhigh : s.sp + 2 = s.sp + 1 + 1 := by bv_omega
  rw [hhigh]
  refine loadWord_accesses fun _ t ht => ?_
  rw [← State.sp_eq_of_regs ht]
  refine .load fun b u _ => ?_
  refine .still (t := (u.putPsw (pswOfByte b)).putSp (u.sp + 3)) ⟨rfl, rfl, rfl, rfl⟩ ?_
  exact storeImf_accesses fun _ => .done

/-! ## The shared ends of the instructions -/

section Shared
variable {s : State} {m : Src} {len : Nat}

theorem aluReg8_accesses {op : AluOp} {r : Reg8} {b : Byte} :
    Accesses s (aluReg8 op r b len s) [] [] := by
  cases op <;> exact .done

theorem aluReg16_accesses {op : AluOp} {rr : Reg16} {b : Word} :
    Accesses s (aluReg16 op rr b len s) [] [] := by
  cases op <;> exact .done

theorem aluSrc8_cmp_accesses {b : Byte} :
    Accesses s (aluSrc8 .cmp m b len s) [srcAddr m s] [] := by
  rw [aluSrc8, if_pos rfl]
  exact withSrcByte_accesses fun _ _ => .done

theorem aluSrc8_accesses {op : AluOp} (hop : op ≠ .cmp) {b : Byte} :
    Accesses s (aluSrc8 op m b len s) [srcAddr m s] [srcAddr m s] := by
  rw [aluSrc8, if_neg hop]
  exact updateSrcByte_accesses fun _ _ => .done

theorem pushReg16_accesses {rr : Reg16} :
    Accesses s (pushReg16 rr len s) [] [s.sp, s.sp - 1] :=
  push16_accesses fun _ => .done

theorem popReg16_accesses {rr : Reg16} :
    Accesses s (popReg16 rr len s) [s.sp + 1, s.sp + 2] [] :=
  pop16_accesses fun _ _ => .done

theorem callTo_accesses {target : Word} : Accesses s (callTo target len s) [] [s.sp, s.sp - 1] :=
  push16_accesses fun _ => .done

theorem jumpRelative_accesses {taken : Bool} {base d : Word} :
    Accesses s (jumpRelative taken base d len s) [] [] := by
  cases taken <;> exact .done

theorem changeSrcBit_accesses {f : Byte → BitVec 3 → Byte} {b : BitVec 3} :
    Accesses s (changeSrcBit f m b len s) [srcAddr m s] [srcAddr m s] :=
  updateSrcByte_accesses fun _ _ => .done

theorem testSrcBit_accesses {b : BitVec 3} : Accesses s (testSrcBit m b len s) [srcAddr m s] [] :=
  withSrcByte_accesses fun _ _ => .done

theorem putSrcBit_accesses {b : BitVec 3} :
    Accesses s (putSrcBit m b s) [srcAddr m s] [srcAddr m s] :=
  updateSrcByte_accesses fun _ _ => .done

theorem stepSrc_accesses {f : Byte → Byte × Bool × Bool} :
    Accesses s (stepSrc f m s) [srcAddr m s] [srcAddr m s] :=
  updateSrcByte_accesses fun _ _ => .done

theorem execPushPsw_accesses : Accesses s (execPushPsw s) [] [s.sp] := by
  unfold execPushPsw
  exact .still (t := s.drew 1) ⟨rfl, rfl, rfl, rfl⟩ (.store fun _ _ => .done)

theorem execPopPsw_accesses : Accesses s (execPopPsw s) [s.sp + 1] [] := by
  unfold execPopPsw
  exact .still (t := s.putSp (s.sp + 1)) ⟨rfl, rfl, rfl, rfl⟩
    (.load fun _ _ _ => .done)

theorem execCallv_accesses {n : BitVec 4} :
    Accesses s (execCallv n s) [callVector n, callVector n + 1] [s.sp, s.sp - 1] :=
  loadWord_accesses fun _ _ ht => State.sp_eq_of_regs ht ▸ callTo_accesses

theorem callIncSp_accesses :
    Accesses s (callIncSp s) [s.sp + 1, s.sp + 2] [s.sp, s.sp + 1] := by
  unfold callIncSp
  refine .still (t := s.putSp (s.sp + 1)) ⟨rfl, rfl, rfl, rfl⟩ (.store fun _ _ => ?_)
  exact .load fun _ _ _ => .store fun _ _ => .load fun _ _ _ => .done

theorem execCallSrc_accesses :
    Accesses s (execCallSrc m s) [srcAddr m s, srcAddr m s + 1]
      (if m = .incSp then [s.sp, s.sp + 1] else [s.sp, s.sp - 1]) := by
  unfold execCallSrc
  split
  · subst m
    have hhigh : s.sp + 2 = s.sp + 1 + 1 := by bv_omega
    exact hhigh ▸ callIncSp_accesses
  · refine withSrcWord_accesses fun v t ht => ?_
    rw [← State.sp_eq_of_regs (srcBegin_of_ne ‹_› s ▸ ht)]
    exact callTo_accesses

end Shared

/-! ## Every instruction -/

/-- Every instruction but a row of `isPrefixRow` loads from the addresses `loadedFrom` gives and
stores to those `storedAt` gives. -/
theorem exec_accesses (i : Instr) (s : State) (hi : isPrefixRow i = false) :
    Accesses s (exec i s) (loadedFrom i s) (storedAt i s) := by
  unfold exec
  cases i with
  | prefixReg _ _ | prefixSrcX _ _ | prefixSrcVw _ _ | prefixSrcDe _ | prefixSrcHl _
  | prefixSrcIx _ | prefixSrcIy _ | prefixSrcIncSp _ | prefixSrcHlC _ | prefixSrcIxD _ _
  | prefixSrcIyD _ _ | prefixSrcSpD _ _ | prefixSrcHlD _ _ | prefixSrcPcA _ | prefixDstX _ _
  | prefixDstVw _ _ | prefixDstDe _ | prefixDstHl _ | prefixDstIx _ | prefixDstIy _
  | prefixDstSpDec _ | prefixDstHlC _ | prefixDstIxD _ _ | prefixDstIyD _ _ | prefixDstSpD _ _
  | prefixDstHlD _ _ => cases hi
  -- the ALU
  | addcAN _ | addAN _ | subbAN _ | subAN _ | andAN _ | xorAN _ | orAN _ | cmpAN _ | addcRG _ _
  | addRG _ _ | subbRG _ _ | subRG _ _ | andRG _ _ | xorRG _ _ | orRG _ _ | cmpRG _ _ | addcGN _ _
  | addGN _ _ | subbGN _ _ | subGN _ _ | andGN _ _ | xorGN _ _ | orGN _ _ | cmpGN _ _ =>
    exact aluReg8_accesses
  | addcGgMn _ _ | addGgMn _ _ | subbGgMn _ _ | subGgMn _ _ | andGgMn _ _ | xorGgMn _ _
  | orGgMn _ _ | cmpGgMn _ _ | addcRrGg _ _ | addRrGg _ _ | subbRrGg _ _ | subRrGg _ _
  | andRrGg _ _ | xorRrGg _ _ | orRrGg _ _ | cmpRrGg _ _ => exact aluReg16_accesses
  | addcRSrc _ _ | addRSrc _ _ | subbRSrc _ _ | subRSrc _ _ | andRSrc _ _ | xorRSrc _ _
  | orRSrc _ _ | cmpRSrc _ _ => exact withSrcByte_accesses fun _ _ => aluReg8_accesses
  | addcRrSrc _ _ | addRrSrc _ _ | subbRrSrc _ _ | subRrSrc _ _ | andRrSrc _ _ | xorRrSrc _ _
  | orRrSrc _ _ | cmpRrSrc _ _ => exact withSrcWord_accesses fun _ _ _ => aluReg16_accesses
  | cmpXN _ _ | cmpSrcN _ _ => exact aluSrc8_cmp_accesses
  | addcSrcN _ _ | addSrcN _ _ | subbSrcN _ _ | subSrcN _ _ | andSrcN _ _ | xorSrcN _ _
  | orSrcN _ _ => exact aluSrc8_accesses (by decide)
  -- what writes registers, flags or PC alone
  | nop | clrCf | setCf | cplCf | ldAR _ | ldRA _ | ldRG _ _ | ldRN _ _ | xchRG _ _ | ldRrMn _ _
  | ldRrGg _ _ | negCs _ | xchRrGg _ _ | ldSpPlusD _ | ldSpMinusD _ | ldGBCf _ _ | swap _ | incR _
  | decR _ | incRr _ | decRr _ | daa _ | das _ | mul _ | div _ | shlc _ | shrc _ | rolc _ | rorc _
  | shlca _ | shrca _ | setGB _ _ | clrGB _ _ | cplGB _ _ | xorCfGB _ _ | ldCfGB _ _ | ldPswN _
  | jpMn _ | jpGg _ => exact .done
  | jrsT _ | jrsF _ | jrZ _ | jrNz _ | jrCs _ | jrCc _ | jrLe _ | jrGt _ | jrT _ | jrF _ | jr _
  | jrM _ | jrP _ | jrSlt _ | jrSge _ | jrSle _ | jrSgt _ | jrVs _ | jrVc _ =>
    exact jumpRelative_accesses
  -- loads
  | ldAX _ | ldAHl => exact .load fun _ _ _ => .done
  | ldRSrc _ _ | xorCfSrcB _ _ => exact withSrcByte_accesses fun _ _ => .done
  | ldCfXB _ _ | ldCfSrcB _ _ | ldCfSrcA _ => exact testSrcBit_accesses
  | ldRrSrc _ _ | jpSrc _ => exact withSrcWord_accesses fun _ _ _ => .done
  -- stores
  | ldXN _ _ | ldHlN _ | ldXA _ | ldHlA => exact .store fun _ _ => .done
  | ldwXMn _ _ | ldwHlMn _ => exact storeWord_accesses fun _ => .done
  | ldDstR _ _ | ldDstN _ _ => exact toDstByte_accesses fun _ => .done
  | ldDstRr _ _ => exact toDstWord_accesses fun _ => .done
  -- reads then writes of one operand
  | xchRSrc _ _ | rold _ | rord _ => exact updateSrcByte_accesses fun _ _ => .done
  | incSrc _ | decSrc _ => exact stepSrc_accesses
  | ldSrcBCf _ _ | ldSrcACf _ => exact putSrcBit_accesses
  | setXB _ _ | clrXB _ _ | ei | di | setSrcB _ _ | clrSrcB _ _ | cplSrcB _ _ | setSrcA _
  | clrSrcA _ | cplSrcA _ => exact changeSrcBit_accesses
  | xchRrSrc _ _ => exact exchangeSrcWord_accesses fun _ _ => .done
  -- the stack, calls, returns
  | pushRr _ | pushGg _ => exact pushReg16_accesses
  | popRr _ | popGg _ => exact popReg16_accesses
  | pushPsw => exact execPushPsw_accesses
  | popPsw => exact execPopPsw_accesses
  | callMn _ | callGg _ => exact callTo_accesses
  | callv _ => exact execCallv_accesses
  | callSrc _ => exact execCallSrc_accesses
  | ret => exact pop16_accesses fun _ _ => .done
  | reti | retn => exact returnFromHandler_accesses s
  | swi => exact enterHandler_accesses _ _ s

/-- A row of `isPrefixRow` stops with its bytes (30_encoding.md R112, D1). -/
theorem exec_prefixRow {i : Instr} (hi : isPrefixRow i = true) (s : State) :
    exec i s = .fault (.undefinedInstruction (encode i)) := by
  cases i with
  | prefixReg _ _ | prefixSrcX _ _ | prefixSrcVw _ _ | prefixSrcDe _ | prefixSrcHl _
  | prefixSrcIx _ | prefixSrcIy _ | prefixSrcIncSp _ | prefixSrcHlC _ | prefixSrcIxD _ _
  | prefixSrcIyD _ _ | prefixSrcSpD _ _ | prefixSrcHlD _ _ | prefixSrcPcA _ | prefixDstX _ _
  | prefixDstVw _ _ | prefixDstDe _ | prefixDstHl _ | prefixDstIx _ | prefixDstIy _
  | prefixDstSpDec _ | prefixDstHlC _ | prefixDstIxD _ _ | prefixDstIyD _ _ | prefixDstSpD _ _
  | prefixDstHlD _ _ => rfl
  | _ => cases hi

/-- A row of `isPrefixRow` accesses no memory but its own bytes. -/
theorem accessedBy_prefixRow {i : Instr} (hi : isPrefixRow i = true) (s : State) :
    accessedBy i s = [] := by
  cases i with
  | prefixReg _ _ | prefixSrcX _ _ | prefixSrcVw _ _ | prefixSrcDe _ | prefixSrcHl _
  | prefixSrcIx _ | prefixSrcIy _ | prefixSrcIncSp _ | prefixSrcHlC _ | prefixSrcIxD _ _
  | prefixSrcIyD _ _ | prefixSrcSpD _ _ | prefixSrcHlD _ _ | prefixSrcPcA _ | prefixDstX _ _
  | prefixDstVw _ _ | prefixDstDe _ | prefixDstHl _ | prefixDstIx _ | prefixDstIy _
  | prefixDstSpDec _ | prefixDstHlC _ | prefixDstIxD _ _ | prefixDstIyD _ _ | prefixDstSpD _ _
  | prefixDstHlD _ _ => rfl
  | _ => cases hi

/-- An instruction that ends in a next state is no row of `isPrefixRow`. -/
theorem exec_next_accesses {i : Instr} {s t : State} (h : exec i s = .next t) :
    Accesses s (exec i s) (loadedFrom i s) (storedAt i s) := by
  cases hi : isPrefixRow i with
  | false => exact exec_accesses i s hi
  | true => cases (exec_prefixRow hi s).symm.trans h

/-! ## Every step keeps the invariant -/

theorem exec_keepsInv (i : Instr) (s : State) : KeepsInv (exec i s) s :=
  fun t ht => (exec_next_accesses ht).keepsInv t ht

theorem loadByte_keepsInv {a : Word} {s : State} {k : Byte → State → Result}
    (hk : ∀ v t, KeepsInv (k v t) t) : KeepsInv (loadByte a s k) s := by
  intro u hu hs
  obtain ⟨v, t, ht, hku⟩ := loadByte_next hu
  exact hk v t u hku (ht.inv hs)

theorem fetchFrom_keepsInv {k : Instr → State → Result} (hk : ∀ i t, KeepsInv (k i t) t)
    (fuel : Nat) (a : Word) (read : List Byte) (s : State) :
    KeepsInv (fetchFrom fuel a read s k) s := by
  induction fuel generalizing a read s with
  | zero => rintro _ ⟨⟩
  | succ fuel ih =>
    refine loadByte_keepsInv fun b t => ?_
    split
    · exact hk _ t
    · exact ih _ _ t
    · rintro _ ⟨⟩

/-- A reset loads a memory in canonical form; every other event is an entry into a handler. -/
theorem acceptEvent_keepsInv {offers : List HostEvent} {s : State} {k : State → Result}
    (hk : ∀ t, KeepsInv (k t) t) : KeepsInv (acceptEvent offers s k) s := by
  unfold acceptEvent
  split
  · rintro _ ⟨⟩ hs
    exact ⟨hs.2, hs.2⟩
  split
  · exact (enterHandler_accesses _ _ s).keepsInv
  split
  · exact hk s
  refine loadByte_keepsInv fun v t => ?_
  dsimp only
  split
  · exact (enterHandler_accesses _ _ t).keepsInv
  · exact hk t

theorem step_keepsInv (s : State) : KeepsInv (step s) s.pastOffers := by
  unfold step
  split
  · rintro _ ⟨⟩
  · exact acceptEvent_keepsInv fun t => fetchFrom_keepsInv exec_keepsInv 5 t.pc [] t

end Sys2Proof.Machine

open Sys2Proof Sys2Proof.Machine

/-- Settles O9: every byte access keeps the invariant, and a reset loads a memory that meets it
(`step_keepsInv`). -/
theorem stepKeepsMemoryCanonical : Obligations.StepKeepsMemoryCanonical :=
  fun s t hs h => step_keepsInv s t h hs

/-- Settles O10: nothing is listed in memory after reset. -/
theorem resetStateIsCanonical : Obligations.ResetStateIsCanonical :=
  ⟨Memory.wf_reset, Memory.wf_reset⟩

/-- Settles O12: a run of byte accesses that meets no absent address goes on
(`exec_accesses`). -/
theorem instructionsCompleteWithoutAbsentMemory :
    Obligations.InstructionsCompleteWithoutAbsentMemory :=
  fun i s hi hs => (exec_accesses i s hi).goes hs

/-- Settles O13: a row of `isPrefixRow` stops with its bytes; any other instruction is a run of
accesses to the addresses of `accessedBy`, which stops exactly at an absent one. -/
theorem stopsNameTheirCause : Obligations.StopsNameTheirCause := by
  intro i s
  cases hi : isPrefixRow i with
  | true =>
    rw [exec_prefixRow hi, accessedBy_prefixRow hi]
    refine ⟨fun f hf => ?_, fun a ha => absurd ha List.not_mem_nil, nofun⟩
    cases hf
    exact .inl ⟨rfl, rfl⟩
  | false =>
    have hacc := exec_accesses i s hi
    exact ⟨fun f hf => .inr (hacc.fault_cause hf), fun a ha habs => hacc.stops ha habs,
      hacc.not_refused⟩

/-- Settles O16: the bytes outside `storedAt` by the frame of every instruction (`exec_framed`), the
rest by inductions over its accesses. -/
theorem bytesOutsideStoredAreUnchanged : Obligations.BytesOutsideStoredAreUnchanged := by
  intro i s t h
  have hacc := exec_next_accesses h
  obtain ⟨-, hbytes, -⟩ := exec_framed i s t h
  exact ⟨hbytes, hacc.mem_of_no_store h, fun a ha => hacc.byteAt_of_not_ram h ha,
    hacc.deviceLog_of_no_device h⟩

end

section
/-! PROOFS. O22, O23, O24, O25, O28, O34, O51: transfers, exchanges, logic operations and calls under
the default regions, all `ram` (20_memory.md R59). The shared operations have one equation each there
(`loadWord_allRam` and those beside it); the shared ends of the instructions have theirs here. -/

namespace Sys2Proof.Machine

/-! ## The shared ends of the instructions, as next states -/

theorem loadedReg8_eq (r : Reg8) (v : Byte) (len : Nat) (s : State) : loadedReg8 r v len s
    = .next (s.after8 r v { s.psw with jf := true, zf := decide (v = 0) } len) := rfl

theorem loadedReg16_eq (rr : Reg16) (v : Word) (len : Nat) (s : State) :
    loadedReg16 rr v len s = .next (s.after16 rr v { s.psw with jf := true } len) := rfl

theorem transferred_eq (len : Nat) (s : State) :
    transferred len s = .next (s.afterFlags { s.psw with jf := true } len) := rfl

@[simp] theorem dstEnd_setByte_psw (m : Dst) (s : State) (a : Word) (v : Byte) :
    (dstEnd m (s.setByte a v)).psw = s.psw := dstEnd_psw m _

@[simp] theorem State.setWord_psw (s : State) (a v : Word) : (s.setWord a v).psw = s.psw := rfl

/-! ## Instructions as uses of the shared operations -/

section Arms
variable (s : State) (x : Byte) (r : Reg8) (rr : Reg16) (m : Src) (n : BitVec 4)

theorem exec_ldAX : exec (.ldAX x) s
    = loadByte (zext16 x) s fun v s => loadedReg8 .a v 2 s := rfl
theorem exec_ldAHl : exec .ldAHl s
    = loadByte (s.get16 .hl) s fun v s => loadedReg8 .a v 1 s := rfl
theorem exec_ldRSrc : exec (.ldRSrc r m) s
    = withSrcByte m s fun v s => loadedReg8 r v (srcLen m 0) s := rfl
theorem exec_ldRrSrc : exec (.ldRrSrc rr m) s
    = withSrcWord m s fun v s => loadedReg16 rr v (srcLen m 0) s := rfl
theorem exec_xchRSrc : exec (.xchRSrc r m) s
    = updateSrcByte m (fun _ => s.get8 r) s fun v s => loadedReg8 r v (srcLen m 0) s := rfl
theorem exec_xchRrSrc : exec (.xchRrSrc rr m) s
    = exchangeSrcWord m (fun s => s.get16 rr) s fun v s => loadedReg16 rr v (srcLen m 0) s := rfl
theorem exec_callv : exec (.callv n) s
    = loadWord (callVector n) s fun t s => callTo t 1 s := rfl
theorem exec_callSrc_of_ne (hm : m ≠ .incSp) : exec (.callSrc m) s
    = withSrcWord m s fun t s => callTo t (srcLen m 0) s := if_neg hm

end Arms

/-! ## The logic operations (42 R260) -/

section Logic
variable (s : State) (r : Reg8) (rr : Reg16) (b : Byte) (w : Word) (len : Nat)

theorem aluReg8_and : leaves8 (aluReg8 .and r b len s) s r (s.get8 r &&& b) len := rfl
theorem aluReg8_or : leaves8 (aluReg8 .or r b len s) s r (s.get8 r ||| b) len := rfl
theorem aluReg8_xor : leaves8 (aluReg8 .xor r b len s) s r (s.get8 r ^^^ b) len := rfl
theorem aluReg16_and : leaves16 (aluReg16 .and rr w len s) s rr (s.get16 rr &&& w) len := rfl
theorem aluReg16_or : leaves16 (aluReg16 .or rr w len s) s rr (s.get16 rr ||| w) len := rfl
theorem aluReg16_xor : leaves16 (aluReg16 .xor rr w len s) s rr (s.get16 rr ^^^ w) len := rfl

end Logic

/-! ## Registers and bytes after an exchange, a push, a store -/

/-- After an exchange the second register holds what the first held, the same register or not. -/
theorem State.get8_exchanged (s : State) (r g : Reg8) :
    ((s.put8 g (s.get8 r)).put8 r (s.get8 g)).get8 g = s.get8 r := by
  by_cases h : g = r
  · subst h
    exact State.get8_put8_same _ _ _
  · exact (Regs.get8_put8_other _ r g _ h).trans (Regs.get8_put8_same _ g _)

theorem sub_one_ne (a : Word) : a - 1 ≠ a := by bv_omega

section Pushed
variable {s : State} (hw : Memory.wf s.mem = true) (v : Word)
include hw

theorem State.byteAt_pushed_high : (s.pushed v).byteAt s.sp = hiByte v :=
  (State.byteAt_setByte_other _ _ _ _ (sub_one_ne s.sp).symm).trans
    (State.byteAt_setByte_same s s.sp _ hw)

theorem State.byteAt_pushed_low : (s.pushed v).byteAt (s.sp - 1) = loByte v :=
  State.byteAt_setByte_same _ _ _ (Memory.wf_setByte _ _ hw)

theorem State.wordAt_pushed : (s.pushed v).wordAt (s.sp - 1) = v := by
  have hhigh : s.sp - 1 + 1 = s.sp := by bv_omega
  rw [State.wordAt, hhigh, State.byteAt_pushed_high hw, State.byteAt_pushed_low hw,
    mkWord_hiByte_loByte]

end Pushed

/-! ## Under the default regions -/

section AllRam
variable {s : State} (h : s.allRam)
include h

theorem toDstByte_allRam (m : Dst) (v : Byte) (k : State → Result) :
    toDstByte m v s k = k (dstEnd m (s.setByte (dstAddr m s) v)) := storeByte_ram (h _) v _

theorem toDstWord_allRam (m : Dst) (v : Word) (k : State → Result) :
    toDstWord m v s k = k (dstEnd m (s.setWord (dstAddr m s) v)) := storeWord_allRam h _ v _

theorem pop16_allRam (k : Word → State → Result) :
    pop16 s k = k (s.wordAt (s.sp + 1)) (s.putSp (s.sp + 2)) := by
  have hsp : ∀ a, (s.putSp (s.sp + 2)).kindAt a = .ram := h
  have hlow : s.sp + 2 - 1 = s.sp + 1 := by bv_omega
  have hhigh : s.sp + 2 = s.sp + 1 + 1 := by bv_omega
  simp only [pop16, State.sp_putSp, hlow, loadByte_ram (hsp _), State.putSp_byteAt, State.wordAt]
  rw [hhigh]

theorem pushReg16_allRam (rr : Reg16) (len : Nat) :
    pushReg16 rr len s = .next ((s.pushed (s.get16 rr)).afterFlags s.psw len) := push16_allRam h _ _

theorem popReg16_allRam (rr : Reg16) (len : Nat) : popReg16 rr len s
    = .next ((s.putSp (s.sp + 2)).after16 rr (s.wordAt (s.sp + 1)) s.psw len) := pop16_allRam h _

theorem callTo_allRam (target : Word) (len : Nat) : callTo target len s
    = .next { s.pushed (s.pc + BitVec.ofNat 16 len) with pc := target } := push16_allRam h _ _

/-- `CALL (+SP)`: the target's bytes lie above the byte stored first, and each is read before the
byte over it is written (46 R436). -/
theorem callIncSp_allRam : callIncSp s = .next
    { (s.setWord s.sp (s.pc + 2)).putSp (s.sp - 1) with pc := s.wordAt (s.sp + 1) } := by
  have hk : ∀ a, s.kindAt a = .ram := h
  have h1 : s.sp + 1 ≠ s.sp := by bv_omega
  have h2 : s.sp + 2 ≠ s.sp := by bv_omega
  have h21 : s.sp + 2 ≠ s.sp + 1 := by bv_omega
  have hnext : s.sp + 1 + 1 = s.sp + 2 := by bv_omega
  simp only [callIncSp, storeByte_ram, loadByte_ram, hk, State.setByte_kindAt, State.putSp_kindAt,
    State.byteAt_setByte_other _ _ _ _ h1, State.byteAt_setByte_other _ _ _ _ h2,
    State.byteAt_setByte_other _ _ _ _ h21, State.putSp_byteAt, State.wordAt, hnext]
  rfl

end AllRam

theorem callVector_eq (n : BitVec 4) : callVector n = BitVec.ofNat 16 (0xFFC0 + 2 * n.toNat) := by
  unfold callVector
  bv_omega

end Sys2Proof.Machine

open Sys2Proof Sys2Proof.Machine

/-- Settles O22: a byte or a word read, then `loadedReg8` or `loadedReg16`. -/
theorem loadsFromMemory : Obligations.LoadsFromMemory := by
  intro s x m r rr h
  rw [exec_ldAX, exec_ldAHl, exec_ldRSrc, exec_ldRrSrc, loadByte_ram (h _), loadByte_ram (h _),
    withSrcByte_allRam h, withSrcWord_ram h]
  simp only [loadedReg8_eq, loadedReg16_eq, srcBegin_psw, and_self]

/-- Settles O23: a byte or a word stored, then `transferred`. -/
theorem storesToMemory : Obligations.StoresToMemory := by
  rintro s x n m r rr mn _ h rfl
  have hbyte (v : Byte) (len : Nat) : toDstByte m v s (transferred len) = .next
      ((dstEnd m (s.setByte (dstAddr m s) v)).afterFlags { s.psw with jf := true } len) := by
    rw [toDstByte_allRam h, transferred_eq, dstEnd_setByte_psw]
  have hword : toDstWord m (s.get16 rr) s (transferred (dstLen m 0)) = .next
      ((dstEnd m (s.setWord (dstAddr m s) (s.get16 rr))).afterFlags { s.psw with jf := true }
        (dstLen m 0)) := by
    rw [toDstWord_allRam h, transferred_eq, dstEnd_psw, State.setWord_psw]
  exact ⟨storeByte_ram (h _) _ _, storeByte_ram (h _) _ _, hbyte _ _, storeByte_ram (h _) _ _,
    storeByte_ram (h _) _ _, hbyte _ _, storeWord_allRam h _ _ _, storeWord_allRam h _ _ _, hword⟩

/-- Settles O25 (`popReg16_allRam`). -/
theorem popLoadsTheWord : Obligations.PopLoadsTheWord :=
  fun _ q gg h => ⟨popReg16_allRam h (pairReg q) 1, popReg16_allRam h gg 2⟩

/-- Settles O24: the word pushed is the word above the new SP (`State.wordAt_pushed`), which POP
loads. -/
theorem pushStoresTheWord : Obligations.PushStoresTheWord := by
  intro s q gg hh h hw
  refine ⟨pushReg16_allRam h (pairReg q) 1, pushReg16_allRam h gg 2, State.byteAt_pushed_high hw _,
    State.byteAt_pushed_low hw _, _, _, pushReg16_allRam h gg 2,
    popReg16_allRam (s := (s.pushed (s.get16 gg)).afterFlags s.psw 2) h hh 2, ?_, rfl⟩
  have hlow : s.sp - 2 + 1 = s.sp - 1 := by bv_omega
  have hback : s.sp - 2 + 2 = s.sp := by bv_omega
  change ({ s.regs with sp := s.sp - 2 + 2 } : Regs).put16 hh
    ((s.pushed (s.get16 gg)).wordAt (s.sp - 2 + 1)) = _
  rw [hlow, hback, State.wordAt_pushed hw]
  rfl

/-- Settles O28: the register forms in every state, the memory forms by one read and one write. -/
theorem exchangesSwapTheirOperands : Obligations.ExchangesSwapTheirOperands := by
  refine ⟨fun s r g rr gg => ⟨rfl, rfl, s.get8_exchanged r g⟩, fun s r rr m h => ?_⟩
  rw [exec_xchRSrc, exec_xchRrSrc, updateSrcByte_allRam h, exchangeSrcWord_allRam h]
  simp only [loadedReg8_eq, loadedReg16_eq, State.setByte_psw, State.setWord_psw, srcBegin_psw,
    and_self]

/-- Settles O34: `op r,(src)` and `op rr,(src)` are the register forms in the state after the address
is formed; `op (src),n` is `aluSrc8`. -/
theorem logicOnMemory : Obligations.LogicOnMemory := by
  rintro s n r rr m _ _ h rfl rfl
  have hbyte (op : AluOp) : withSrcByte m s (fun v s => aluReg8 op r v (srcLen m 0) s)
      = aluReg8 op r (s.byteAt (srcAddr m s)) (srcLen m 0) (srcBegin m s) :=
    withSrcByte_allRam h m _
  have hword (op : AluOp) : withSrcWord m s (fun v s => aluReg16 op rr v (srcLen m 0) s)
      = aluReg16 op rr (s.wordAt (srcAddr m s)) (srcLen m 0) (srcBegin m s) := withSrcWord_ram h m _
  have hand : exec (.andRSrc r m) s = _ := hbyte .and
  have hor : exec (.orRSrc r m) s = _ := hbyte .or
  have hxor : exec (.xorRSrc r m) s = _ := hbyte .xor
  have hand16 : exec (.andRrSrc rr m) s = _ := hword .and
  have hor16 : exec (.orRrSrc rr m) s = _ := hword .or
  have hxor16 : exec (.xorRrSrc rr m) s = _ := hword .xor
  rw [hand, hor, hxor, hand16, hor16, hxor16, ← srcBegin_get8 m s r]
  exact ⟨aluReg8_and _ _ _ _, aluReg8_or _ _ _ _, aluReg8_xor _ _ _ _, aluReg16_and _ _ _ _,
    aluReg16_or _ _ _ _, aluReg16_xor _ _ _ _, aluSrc8_allRam h .and m n _ rfl,
    aluSrc8_allRam h .or m n _ rfl, aluSrc8_allRam h .xor m n _ rfl⟩

/-- Settles O51: the target is read, then `callTo`; `CALL (+SP)` is `callIncSp`. -/
theorem callsPushTheReturnAddress : Obligations.CallsPushTheReturnAddress := by
  intro s n mn gg m h hw
  refine ⟨?_, callTo_allRam h mn 3, callTo_allRam h (s.get16 gg) 2, fun hm => ?_, ?_⟩
  · rw [exec_callv, loadWord_allRam h, ← callVector_eq]
    exact callTo_allRam h _ 1
  · have hlen : (encode (.callSrc m)).length = srcLen m 0 := srcPrefix_append_length m rfl
    rw [exec_callSrc_of_ne s m hm, hlen, withSrcWord_ram h, srcBegin_of_ne hm]
    exact callTo_allRam h _ _
  · exact callIncSp_allRam h

end

section
/-! PROOFS. O59: loads, stores, read-modify-writes and stack accesses under any regions, said for
the operand forms and the stack in the terms of Sys2Proof/Safety.lean, from the equations of
Sys2Proof/Laws/Access.lean. -/

namespace Sys2Proof.Machine

theorem loadByte_rom {a : Word} {s : State} (h : s.kindAt a = .rom) (k : Byte → State → Result) :
    loadByte a s k = k (s.byteAt a) s := by unfold loadByte; rw [h]

@[simp] theorem afterWordRead_psw (s : State) (a : Word) : (s.afterWordRead a).psw = s.psw := by
  simp [State.afterWordRead]

@[simp] theorem afterWordRead_get16 (s : State) (a : Word) (rr : Reg16) :
    (s.afterWordRead a).get16 rr = s.get16 rr := by simp [State.afterWordRead, State.get16]

@[simp] theorem afterWordRead_kindAt (s : State) (a c : Word) :
    (s.afterWordRead a).kindAt c = s.kindAt c := by simp [State.afterWordRead]

@[simp] theorem afterWordWrite_psw (s : State) (a v : Word) :
    (s.afterWordWrite a v).psw = s.psw := by simp [State.afterWordWrite]

@[simp] theorem afterPush_psw (s : State) (v : Word) : (s.afterPush v).psw = s.psw := by
  simp [State.afterPush]

@[simp] theorem afterPush_pc (s : State) (v : Word) : (s.afterPush v).pc = s.pc := by
  simp [State.afterPush]

/-! ## Where no address is absent -/

section Present
variable {s : State} {m : Src}

theorem withSrcWord_readAt (h : s.kindAt (srcAddr m s) ≠ .absent)
    (h' : s.kindAt (srcAddr m s + 1) ≠ .absent) (k : Word → State → Result) :
    withSrcWord m s k = k ((srcBegin m s).wordReadAt (srcAddr m s))
      ((srcBegin m s).afterWordRead (srcAddr m s)) :=
  loadWord_readAt (srcBegin_kindAt m s _ ▸ h) (srcBegin_kindAt m s _ ▸ h') k

theorem toDstWord_afterWrite {e : Dst} (h : s.kindAt (dstAddr e s) ≠ .absent)
    (h' : s.kindAt (dstAddr e s + 1) ≠ .absent) (v : Word) (k : State → Result) :
    toDstWord e v s k = k (dstEnd e (s.afterWordWrite (dstAddr e s) v)) :=
  storeWord_afterWrite h h' v _

theorem updateSrcByte_afterWrite (h : s.kindAt (srcAddr m s) ≠ .absent) (f : Byte → Byte)
    (k : Byte → State → Result) : updateSrcByte m f s k = k ((srcBegin m s).readAt (srcAddr m s))
      (((srcBegin m s).afterRead (srcAddr m s)).afterWrite (srcAddr m s)
        (f ((srcBegin m s).readAt (srcAddr m s)))) := by
  unfold updateSrcByte
  rw [loadByte_readAt (srcBegin_kindAt m s _ ▸ h), storeByte_afterWrite (by simpa using h)]

theorem exchangeSrcWord_afterWrite (h : s.kindAt (srcAddr m s) ≠ .absent)
    (h' : s.kindAt (srcAddr m s + 1) ≠ .absent) (f : State → Word) (k : Word → State → Result) :
    exchangeSrcWord m f s k = k ((srcBegin m s).wordReadAt (srcAddr m s))
      (((srcBegin m s).afterWordRead (srcAddr m s)).afterWordWrite (srcAddr m s)
        (f ((srcBegin m s).afterWordRead (srcAddr m s)))) := by
  unfold exchangeSrcWord
  rw [loadWord_readAt (srcBegin_kindAt m s _ ▸ h) (srcBegin_kindAt m s _ ▸ h'),
    storeWord_afterWrite (by simpa using h) (by simpa using h')]

end Present

/-- INC of a byte, over the numbers: JF is the carry out of bit 7 (42 R287). -/
theorem incN_byte (v : Byte) : incN v
    = (BitVec.ofNat 8 (v.toNat + 1), decide (256 ≤ v.toNat + 1), decide (v.toNat = 255)) := by
  have hv := v.isLt
  have hcarry : (v == BitVec.allOnes 8) = decide (256 ≤ v.toNat + 1) := by
    rw [Bool.eq_iff_iff, beq_iff_eq, decide_eq_true_iff, ← BitVec.toNat_inj, BitVec.toNat_allOnes]
    omega
  have hzero : (v + 1 == 0) = decide (v.toNat = 255) := by
    rw [beq_zero_eq_decide, decide_eq_decide, BitVec.toNat_add]
    change (v.toNat + 1) % 256 = 0 ↔ _
    omega
  have hres : v + 1 = BitVec.ofNat 8 (v.toNat + 1) := by bv_omega
  rw [incN, hcarry, hzero, hres]

/-! ## One byte, by the kind of its region -/

section ByKind
variable {s : State} (r : Reg8)

theorem exec_ldDstR (e : Dst) (s : State) : exec (.ldDstR e r) s
    = storeByte (dstAddr e s) (s.get8 r) s fun s => transferred (dstLen e 0) (dstEnd e s) := rfl

theorem execLdDstR_rom {e : Dst} (h : s.kindAt (dstAddr e s) = .rom) : exec (.ldDstR e r) s
    = .next ((dstEnd e s).afterFlags { s.psw with jf := true } (dstLen e 0)) := by
  rw [exec_ldDstR, storeByte_rom h, transferred_eq, dstEnd_psw]

theorem execLdDstR_device {e : Dst} (h : s.kindAt (dstAddr e s) = .device) :
    exec (.ldDstR e r) s
      = .next ((dstEnd e (s.logDevice (.write (dstAddr e s) (s.get8 r)))).afterFlags
        { s.psw with jf := true } (dstLen e 0)) := by
  rw [exec_ldDstR, storeByte_device h, transferred_eq, dstEnd_psw, State.logDevice_psw]

theorem execLdDstR_absent {e : Dst} (h : s.kindAt (dstAddr e s) = .absent) :
    exec (.ldDstR e r) s = .fault (.absentMemory (dstAddr e s)) := by
  rw [exec_ldDstR, storeByte_absent h]

theorem execLdRSrc_rom {m : Src} (h : s.kindAt (srcAddr m s) = .rom) : exec (.ldRSrc r m) s
    = .next ((srcBegin m s).after8 r (s.byteAt (srcAddr m s))
      { s.psw with jf := true, zf := decide (s.byteAt (srcAddr m s) = 0) } (srcLen m 0)) := by
  rw [exec_ldRSrc, withSrcByte, loadByte_rom (srcBegin_kindAt m s _ ▸ h), loadedReg8_eq,
    srcBegin_byteAt, srcBegin_psw]

theorem execLdRSrc_device {m : Src} (h : s.kindAt (srcAddr m s) = .device) :
    ∃ v, exec (.ldRSrc r m) s
      = .next (((srcBegin m s).logDevice (.read (srcAddr m s) v)).after8 r v
        { s.psw with jf := true, zf := decide (v = 0) } (srcLen m 0)) := by
  refine ⟨(srcBegin m s).deviceByte (srcAddr m s), ?_⟩
  rw [exec_ldRSrc, withSrcByte, loadByte_device (srcBegin_kindAt m s _ ▸ h), loadedReg8_eq,
    State.logDevice_psw, srcBegin_psw]

theorem execLdRSrc_absent {m : Src} (h : s.kindAt (srcAddr m s) = .absent) :
    exec (.ldRSrc r m) s = .fault (.absentMemory (srcAddr m s)) := by
  rw [exec_ldRSrc, withSrcByte, loadByte_absent (srcBegin_kindAt m s _ ▸ h)]

end ByKind

theorem allRam_of_no_regions {s : State} (h : s.regions = []) : s.allRam := fun a => by
  rw [State.kindAt, h]
  rfl

/-- The first region that holds an address decides (log 5). -/
theorem kindAt_of_regions {s : State} {g : Region} {gs : List Region} (h : s.regions = g :: gs)
    (a : Word) :
    s.kindAt a = if g.first ≤ a ∧ a ≤ g.last then g.kind else kindIn gs a := by
  rw [State.kindAt, h]
  rfl

/-! ## Words, read-modify-writes and the stack -/

section Wide
variable (s : State) (r : Reg8) (rr : Reg16) (m : Src) (e : Dst) (mn : Word)

theorem exec_ldDstRr : exec (.ldDstRr e rr) s
    = toDstWord e (s.get16 rr) s (transferred (dstLen e 0)) := rfl
theorem exec_incSrc : exec (.incSrc m) s
    = updateSrcByte m (fun v => (incN v).1) s fun v s =>
      .next ((s.putJfZf (incN v).2.1 (incN v).2.2).advance (srcLen m 0)) := rfl
theorem exec_pushGg : exec (.pushGg rr) s
    = push16 (s.get16 rr) s fun s => .next (s.advance 2) := rfl
theorem exec_popGg : exec (.popGg rr) s
    = pop16 s fun v s => .next ((s.put16 rr v).advance 2) := rfl
theorem exec_callMn : exec (.callMn mn) s
    = push16 (s.pc + 3) s fun s => .next (s.putPc mn) := rfl
theorem exec_ret : exec .ret s = pop16 s fun t s => .next (s.putPc t) := rfl

end Wide

/-- JF and ZF written and PC moved on. -/
theorem putJfZf_advance (s : State) (j z : Bool) (len : Nat) :
    (s.putJfZf j z).advance len = s.afterFlags { s.psw with jf := j, zf := z } len := rfl

/-- PC moved on alone. -/
theorem advance_eq_afterFlags (s : State) (len : Nat) :
    s.advance len = s.afterFlags s.psw len := rfl

end Sys2Proof.Machine

open Sys2Proof Sys2Proof.Machine

/-- Settles O59: a byte by the kind of its region, everything wider by the equation of its operation
where no address it accesses is absent. -/
theorem regionsDecideTheAccess : Obligations.RegionsDecideTheAccess := by
  refine ⟨fun s r m e => ⟨execLdDstR_rom r, execLdDstR_device r, execLdDstR_absent r,
    execLdRSrc_rom r, execLdRSrc_device r, execLdRSrc_absent r, allRam_of_no_regions,
    fun g gs a hg => ⟨fun h => ?_, fun h => ?_⟩⟩, ?_⟩
  · rw [kindAt_of_regions hg, if_pos h]
  · rw [kindAt_of_regions hg, if_neg h]
  rintro s _ r rr m e _ mn _ _ rfl rfl rfl rfl
  refine ⟨fun h => ?_, fun h => ?_, fun h => ?_, fun h => ?_, fun h => ?_, fun h => ?_, fun h => ?_,
    fun h => ?_, fun h => ?_⟩
  · rw [exec_ldRrSrc, withSrcWord_readAt (h _ (.head _)) (h _ (.tail _ (.head _))), loadedReg16_eq,
      afterWordRead_psw, srcBegin_psw]
  · rw [exec_ldDstRr, toDstWord_afterWrite (h _ (.head _)) (h _ (.tail _ (.head _))),
      transferred_eq, dstEnd_psw, afterWordWrite_psw]
  · rw [exec_incSrc, updateSrcByte_afterWrite h, putJfZf_advance, incN_byte, afterWrite_psw,
      afterRead_psw, srcBegin_psw]
  · rw [exec_xchRSrc, updateSrcByte_afterWrite h, loadedReg8_eq, afterWrite_psw, afterRead_psw,
      srcBegin_psw]
  · rw [exec_xchRrSrc, exchangeSrcWord_afterWrite (h _ (.head _)) (h _ (.tail _ (.head _))),
      loadedReg16_eq, afterWordWrite_psw, afterWordRead_psw, srcBegin_psw, afterWordRead_get16]
  · rw [exec_pushGg, push16_afterPush (h _ (.head _)) (h _ (.tail _ (.head _))),
      advance_eq_afterFlags, afterPush_psw]
  · rw [exec_popGg, pop16_wordReadAt (h _ (.head _)) (h _ (.tail _ (.head _))),
      advance_eq_afterFlags, State.put16_psw, State.putSp_psw, afterWordRead_psw]
    rfl
  · rw [exec_callMn, push16_afterPush (h _ (.head _)) (h _ (.tail _ (.head _)))]
    rfl
  · rw [exec_ret, pop16_wordReadAt (h _ (.head _)) (h _ (.tail _ (.head _)))]
    rfl

end

section
/-! PROOFS. The decoder's reading of bytes, for O6, O7 and O60: an answer stands whatever bytes
follow, and five bytes always give one (30_encoding.md R114). -/

namespace Sys2Proof.Decode

open Machine

/-- f answers within n bytes, and bytes behind those that decide change nothing. -/
structure Reads (n : Nat) (f : List Byte → Decoded) : Prop where
  stable : ∀ bs rest, f bs ≠ .more → f (bs ++ rest) = f bs
  decides : ∀ bs, n ≤ bs.length → f bs ≠ .more

section Reads
variable {n : Nat}

@[simp] theorem Reads.instr (i : Instr) : Reads n fun _ => .instr i :=
  ⟨fun _ _ _ => rfl, fun _ _ => nofun⟩

@[simp] theorem Reads.undefined (u : List Byte) : Reads n fun _ => .undefined u :=
  ⟨fun _ _ _ => rfl, fun _ _ => nofun⟩

@[simp] theorem Reads.need1 (k : Byte → Instr) : Reads (n + 1) fun bs => need1 bs k where
  stable
    | [], _, h => absurd rfl h
    | _ :: _, _, _ => rfl
  decides
    | [], h => by simp at h
    | _ :: _, _ => nofun

@[simp] theorem Reads.need2 (k : Byte → Byte → Instr) : Reads (n + 2) fun bs => need2 bs k where
  stable
    | [], _, h | [_], _, h => absurd rfl h
    | _ :: _ :: _, _, _ => rfl
  decides
    | [], h | [_], h => by simp at h
    | _ :: _ :: _, _ => nofun

@[simp] theorem Reads.needWord (k : Word → Instr) : Reads (n + 2) fun bs => needWord bs k :=
  .need2 _

@[simp] theorem Reads.need1Word (k : Byte → Word → Instr) :
    Reads (n + 3) fun bs => need1Word bs k where
  stable
    | [], _, h | [_], _, h | [_, _], _, h => absurd rfl h
    | _ :: _ :: _ :: _, _, _ => rfl
  decides
    | [], h | [_], h | [_, _], h => by simp at h
    | _ :: _ :: _ :: _, _ => nofun

@[simp] theorem Reads.second {k : Byte → List Byte → Decoded} (hk : ∀ op, Reads n (k op)) :
    Reads (n + 1) fun bs => second bs k where
  stable
    | [], _, h => absurd rfl h
    | op :: bs, rest, h => (hk op).stable bs rest h
  decides
    | [], h => by simp at h
    | op :: bs, h => (hk op).decides bs (Nat.le_of_succ_le_succ h)

@[simp] theorem Reads.second1 {k : Byte → Byte → List Byte → Decoded}
    (hk : ∀ x op, Reads n (k x op)) : Reads (n + 2) fun bs => second1 bs k where
  stable
    | [], _, h => absurd rfl h
    | x :: bs, rest, h => (Reads.second (hk x)).stable bs rest h
  decides
    | [], h => by simp at h
    | x :: bs, h => (Reads.second (hk x)).decides bs (Nat.le_of_succ_le_succ h)

@[simp] theorem Reads.secondWord {k : Word → Byte → List Byte → Decoded}
    (hk : ∀ w op, Reads n (k w op)) : Reads (n + 3) fun bs => secondWord bs k where
  stable
    | [], _, h | [_], _, h => absurd rfl h
    | w :: v :: bs, rest, h => (Reads.second (hk (mkWord v w))).stable bs rest h
  decides
    | [], h | [_], h => by simp at h
    | w :: v :: bs, h =>
      (Reads.second (hk (mkWord v w))).decides bs
        (Nat.le_of_succ_le_succ (Nat.le_of_succ_le_succ h))

end Reads

/-- After E8H+g and a second opcode, two operand bytes are the most. -/
theorem afterReg_reads (n : Nat) (g : BitVec 3) (op : Byte) : Reads (n + 2) (afterReg g op) := by
  unfold afterReg
  repeat' split
  all_goals simp

theorem afterSrc_reads (n : Nat) (m : Src) (op : Byte) : Reads (n + 1) (afterSrc m op) := by
  unfold afterSrc
  repeat' split
  all_goals simp

theorem afterDst_reads (n : Nat) (m : Dst) (op : Byte) : Reads (n + 1) (afterDst m op) := by
  unfold afterDst
  repeat' split
  all_goals simp

theorem first_reads (b : Byte) : Reads 4 (first b) := by
  unfold first
  repeat' split
  all_goals simp [afterReg_reads, afterSrc_reads, afterDst_reads]

theorem decode_append {bs : List Byte} (h : decode bs ≠ .more) (rest : List Byte) :
    decode (bs ++ rest) = decode bs := by
  cases bs with
  | nil => exact absurd rfl h
  | cons b bs => exact (first_reads b).stable bs rest h

theorem decode_ne_more {bs : List Byte} (h : 5 ≤ bs.length) : decode bs ≠ .more := by
  cases bs with
  | nil => simp at h
  | cons b bs => exact (first_reads b).decides bs (Nat.le_of_succ_le_succ h)

theorem length_lt_of_decode_more {bs : List Byte} (h : decode bs = .more) : bs.length < 5 :=
  Nat.lt_of_not_le fun hle => decode_ne_more hle h

end Sys2Proof.Decode
end

section
/-! PROOFS. For O7 and O60: how the fields of an opcode byte read back, and what the decoder
answers for the bytes of an instruction and for all of them but the last. -/

namespace Sys2Proof.Decode
open Machine Encode

/-! ## Fields of an opcode byte read back -/

theorem row_field (base : Byte) (c : BitVec 3) : row (field base c) = row base := by
  unfold row field
  congr 1
  ext i hi
  simp

theorem low3_field {base : Byte} (hbase : low3 base = 0) (c : BitVec 3) :
    low3 (field base c) = c := by
  have hor : low3 (field base c) = low3 base ||| c := by
    unfold low3 field
    ext i hi
    simp [show i < 8 by omega, BitVec.getLsbD_eq_getElem hi]
  rw [hor, hbase]
  exact BitVec.zero_or

theorem low3_fieldMid (base : Byte) (c : BitVec 3) : low3 (fieldMid base c) = low3 base := by
  unfold low3 fieldMid
  ext i hi
  simp
  omega

theorem mid3_fieldMid {base : Byte} (hbase : mid3 base = 0) (c : BitVec 3) :
    mid3 (fieldMid base c) = c := by
  have hor : mid3 (fieldMid base c) = mid3 base ||| c := by
    unfold mid3 fieldMid
    ext i hi
    simp [show 3 + i < 8 by omega, BitVec.getLsbD_eq_getElem hi]
  rw [hor, hbase]
  exact BitVec.zero_or

/-- Bits 7:6 of an opcode byte, in which the four blocks of eight rows differ. -/
theorem row_div_eight (b : Byte) : row b / 8 = (b.extractLsb' 6 2).toNat := by
  simp [row, Nat.shiftRight_eq_div_pow]
  omega

theorem row_fieldMid (base : Byte) (c : BitVec 3) : row (fieldMid base c) / 8 = row base / 8 := by
  rw [row_div_eight, row_div_eight]
  unfold fieldMid
  congr 1
  ext i hi
  simp [BitVec.getLsbD_of_ge c (6 + i - 3) (by omega)]

@[simp] theorem reg8_code8 (r : Reg8) : reg8 (code8 r) = r := by cases r <;> rfl

@[simp] theorem reg16_code16 (rr : Reg16) : reg16 (code16 rr) = rr := by cases rr <;> rfl

/-! ## Encodings that decode exactly -/

/-- The bytes bs decode to i, and without the last of them nothing is decided. -/
structure Exact (bs : List Byte) (i : Instr) : Prop where
  whole : decode bs = .instr i
  before : decode bs.dropLast = .more

section Exact
variable {c : BitVec 3} {op n : Byte} {m : Src} {e : Dst} {i : Instr}

theorem Exact.one {b : Byte} (h : first b [] = .instr i) : Exact [b] i := ⟨h, rfl⟩

theorem Exact.fieldN {b : Byte} (h : first b [n] = .instr i) (h' : first b [] = .more) :
    Exact [b, n] i := ⟨h, h'⟩

/-- After the first opcode E8H+g comes a second opcode. -/
theorem first_reg (c : BitVec 3) (bs : List Byte) :
    first (field 0xE8 c) bs = second bs (afterReg c) := by
  rw [first, row_field]
  change second bs (afterReg (low3 (field 0xE8 c))) = _
  rw [low3_field rfl]

theorem Exact.reg (h : afterReg c op [] = .instr i) : Exact [field 0xE8 c, op] i :=
  ⟨(first_reg c _).trans h, first_reg c _⟩

theorem Exact.regN (h : afterReg c op [n] = .instr i) (h' : afterReg c op [] = .more) :
    Exact [field 0xE8 c, op, n] i := ⟨(first_reg c _).trans h, (first_reg c _).trans h'⟩

theorem Exact.regWord {n' : Byte} (h : afterReg c op [n, n'] = .instr i)
    (h' : afterReg c op [n] = .more) : Exact [field 0xE8 c, op, n, n'] i :=
  ⟨(first_reg c _).trans h, (first_reg c _).trans h'⟩

/-- The bytes of `srcPrefix` alone decide nothing. -/
theorem decode_srcPrefix (m : Src) : decode (srcPrefix m) = .more := by cases m <;> rfl

/-- After the bytes of `srcPrefix` comes a second opcode. -/
theorem decode_srcPrefix_append (m : Src) (op : Byte) (bs : List Byte) :
    decode (srcPrefix m ++ op :: bs) = afterSrc m op bs := by
  cases m with
  | dir16 vw =>
    change afterSrc (.dir16 (mkWord (hiByte vw) (loByte vw))) op bs = _
    rw [mkWord_hiByte_loByte]
  | _ => rfl

theorem Exact.src (h : afterSrc m op [] = .instr i) : Exact (srcPrefix m ++ [op]) i where
  whole := (decode_srcPrefix_append m op []).trans h
  before := by
    rw [List.dropLast_concat]
    exact decode_srcPrefix m

theorem Exact.srcN (h : afterSrc m op [n] = .instr i) (h' : afterSrc m op [] = .more) :
    Exact (srcPrefix m ++ [op, n]) i where
  whole := (decode_srcPrefix_append m op [n]).trans h
  before := by
    rw [List.dropLast_append_of_ne_nil (by simp)]
    exact (decode_srcPrefix_append m op []).trans h'

theorem decode_dstPrefix (e : Dst) : decode (dstPrefix e) = .more := by cases e <;> rfl

theorem decode_dstPrefix_append (e : Dst) (op : Byte) (bs : List Byte) :
    decode (dstPrefix e ++ op :: bs) = afterDst e op bs := by
  cases e with
  | dir16 vw =>
    change afterDst (.dir16 (mkWord (hiByte vw) (loByte vw))) op bs = _
    rw [mkWord_hiByte_loByte]
  | _ => rfl

theorem Exact.dst (h : afterDst e op [] = .instr i) : Exact (dstPrefix e ++ [op]) i where
  whole := (decode_dstPrefix_append e op []).trans h
  before := by
    rw [List.dropLast_concat]
    exact decode_dstPrefix e

theorem Exact.dstN (h : afterDst e op [n] = .instr i) (h' : afterDst e op [] = .more) :
    Exact (dstPrefix e ++ [op, n]) i where
  whole := (decode_dstPrefix_append e op [n]).trans h
  before := by
    rw [List.dropLast_append_of_ne_nil (by simp)]
    exact (decode_dstPrefix_append e op []).trans h'

end Exact

end Sys2Proof.Decode
end

section
/-! PROOFS. For O7 and O60: the decoder reads every well-formed instruction from exactly the bytes
of its encoding. -/

namespace Sys2Proof.Decode
open Machine Encode WellFormed

/-! ## The blocks of eight rows that hold an operation and a register (30_encoding.md R103) -/

section Block
variable {op : Byte}

theorem afterReg_aluRG (h : row op / 8 = 0) (g : BitVec 3) :
    afterReg g op [] = .instr (aluRG (low3 op) (reg8 (mid3 op)) (reg8 g)) := by
  have hlt : row op < 8 := by omega
  unfold afterReg
  generalize row op = n at hlt
  interval_cases n <;> rfl

theorem afterReg_aluRrGg (h : row op / 8 = 2) (g : BitVec 3) :
    afterReg g op [] = .instr (aluRrGg (low3 op) (reg16 (mid3 op)) (reg16 g)) := by
  have hle : 16 ≤ row op := by omega
  have hlt : row op < 24 := by omega
  unfold afterReg
  generalize row op = n at hle hlt
  interval_cases n <;> rfl

theorem afterSrc_aluRSrc (h : row op / 8 = 0) (m : Src) :
    afterSrc m op [] = .instr (aluRSrc (low3 op) (reg8 (mid3 op)) m) := by
  have hlt : row op < 8 := by omega
  unfold afterSrc
  generalize row op = n at hlt
  interval_cases n <;> rfl

theorem afterSrc_aluRrSrc (h : row op / 8 = 2) (m : Src) :
    afterSrc m op [] = .instr (aluRrSrc (low3 op) (reg16 (mid3 op)) m) := by
  have hle : 16 ≤ row op := by omega
  have hlt : row op < 24 := by omega
  unfold afterSrc
  generalize row op = n at hle hlt
  interval_cases n <;> rfl

end Block

/-- Code 111 is no code of a row that stops at 110 (30_encoding.md R85). -/
theorem code16_ne_seven {rr : Reg16} (h : namedOnce rr = true) : code16 rr ≠ 7 := by
  cases rr with
  | hl7 => cases h
  | _ => decide

/-! ## The second opcodes undefined after E8H+g, `srcPrefix` and `dstPrefix` (30_encoding.md R111) -/

theorem undefAfterSrc_rows : ∀ op : Byte, undefAfterSrc op = true →
    (row op = 9 ∧ low3 op = 7) ∨ row op = 13 ∨ row op = 15 ∨ row op = 26
      ∨ (row op = 30 ∧ ((low3 op).toNat = 1 ∨ (low3 op).toNat = 4 ∨ (low3 op).toNat = 5))
      ∨ (row op = 31 ∧ ((low3 op).toNat = 1 ∨ (low3 op).toNat = 7)) := by decide

theorem undefAfterDst_rows : ∀ op : Byte, undefAfterDst op = true →
    (row op = 13 ∧ low3 op = 7) ∨ (row op = 31 ∧ low3 op ≠ 1)
      ∨ (row op ≠ 13 ∧ row op ≠ 15 ∧ row op ≠ 31) := by decide

theorem undefAfterReg_rows : ∀ (op : Byte) (g : BitVec 3), undefAfterReg g op = true →
    ((row op = 9 ∨ row op = 15) ∧ low3 op = 7) ∨ (row op = 26 ∧ g ≠ 0)
      ∨ (row op = 27 ∧ (low3 op).toNat = 7)
      ∨ (row op = 27 ∧ ((low3 op).toNat = 4 ∨ (low3 op).toNat = 5 ∨ (low3 op).toNat = 6) ∧ g ≠ 0)
      ∨ (row op = 30 ∧ (low3 op).toNat = 2 ∧ ¬ g.toNat < 4)
      ∨ (row op = 30 ∧ (low3 op).toNat = 3 ∧ ¬ (g.toNat < 4 ∧ g ≠ 1))
      ∨ (row op = 31 ∧ ((low3 op).toNat = 0 ∨ (low3 op).toNat = 1 ∨ (low3 op).toNat = 4))
      ∨ (row op = 31 ∧ (low3 op).toNat = 3 ∧ g ≠ 0) := by decide

theorem afterSrc_undefined (m : Src) {op : Byte} (h : undefAfterSrc op = true) :
    afterSrc m op [] = .instr (prefixedSrc m op) := by
  unfold afterSrc
  obtain ⟨hr, hl⟩ | hr | hr | hr | ⟨hr, hl | hl | hl⟩ | ⟨hr, hl | hl⟩ := undefAfterSrc_rows op h <;>
    simp only [*, if_true]

theorem afterDst_undefined (m : Dst) {op : Byte} (h : undefAfterDst op = true) :
    afterDst m op [] = .instr (prefixedDst m op) := by
  unfold afterDst
  obtain ⟨hr, hl⟩ | ⟨hr, hl⟩ | ⟨h13, h15, h31⟩ := undefAfterDst_rows op h
  · simp only [hr, if_pos hl]
  · simp only [hr, if_neg hl]
  · simp only

theorem afterReg_undefined (g : BitVec 3) {op : Byte} (h : undefAfterReg g op = true) :
    afterReg g op [] = .instr (.prefixReg g op) := by
  unfold afterReg
  obtain ⟨hr | hr, hl⟩ | ⟨hr, hg⟩ | ⟨hr, hl⟩ | ⟨hr, hl | hl | hl, hg⟩ | ⟨hr, hl, hg⟩ | ⟨hr, hl, hg⟩
    | ⟨hr, hl | hl | hl⟩ | ⟨hr, hl, hg⟩ := undefAfterReg_rows op g h
  case inr.inl =>
    simp only [hr, if_neg hg]
    split <;> rfl
  all_goals simp only [*, if_true, if_false]

/-! ## Every encoding -/

/-- The decoder reads a well-formed instruction from its bytes, and needs all of them. -/
theorem encode_exact (i : Instr) (hi : i.wellFormed = true) : Exact (encode i) i := by
  cases i with
  -- the rows of `isPrefixRow`
  | prefixReg g op => exact .reg (afterReg_undefined g hi)
  | prefixSrcX x _ => exact .src (m := .dir8 x) (afterSrc_undefined _ hi)
  | prefixSrcVw vw _ => exact .src (m := .dir16 vw) (afterSrc_undefined _ hi)
  | prefixSrcDe _ => exact .src (m := .de) (afterSrc_undefined _ hi)
  | prefixSrcHl _ => exact .src (m := .hl) (afterSrc_undefined _ hi)
  | prefixSrcIx _ => exact .src (m := .ix) (afterSrc_undefined _ hi)
  | prefixSrcIy _ => exact .src (m := .iy) (afterSrc_undefined _ hi)
  | prefixSrcIncSp _ => exact .src (m := .incSp) (afterSrc_undefined _ hi)
  | prefixSrcHlC _ => exact .src (m := .hlC) (afterSrc_undefined _ hi)
  | prefixSrcIxD d _ => exact .src (m := .ixD d) (afterSrc_undefined _ hi)
  | prefixSrcIyD d _ => exact .src (m := .iyD d) (afterSrc_undefined _ hi)
  | prefixSrcSpD d _ => exact .src (m := .spD d) (afterSrc_undefined _ hi)
  | prefixSrcHlD d _ => exact .src (m := .hlD d) (afterSrc_undefined _ hi)
  | prefixSrcPcA _ => exact .src (m := .pcA) (afterSrc_undefined _ hi)
  | prefixDstX x _ => exact .dst (e := .dir8 x) (afterDst_undefined _ hi)
  | prefixDstVw vw _ => exact .dst (e := .dir16 vw) (afterDst_undefined _ hi)
  | prefixDstDe _ => exact .dst (e := .de) (afterDst_undefined _ hi)
  | prefixDstHl _ => exact .dst (e := .hl) (afterDst_undefined _ hi)
  | prefixDstIx _ => exact .dst (e := .ix) (afterDst_undefined _ hi)
  | prefixDstIy _ => exact .dst (e := .iy) (afterDst_undefined _ hi)
  | prefixDstSpDec _ => exact .dst (e := .spDec) (afterDst_undefined _ hi)
  | prefixDstHlC _ => exact .dst (e := .hlC) (afterDst_undefined _ hi)
  | prefixDstIxD d _ => exact .dst (e := .ixD d) (afterDst_undefined _ hi)
  | prefixDstIyD d _ => exact .dst (e := .iyD d) (afterDst_undefined _ hi)
  | prefixDstSpD d _ => exact .dst (e := .spD d) (afterDst_undefined _ hi)
  | prefixDstHlD d _ => exact .dst (e := .hlD d) (afterDst_undefined _ hi)
  -- first opcodes without a field
  | nop | clrCf | setCf | cplCf | cmpXN _ _ | ldXN _ _ | ldHlN _ | ldAX _ | ldAHl | ldXA _ | ldHlA
  | ldSpPlusD _ | ldSpMinusD _ | addcAN _ | addAN _ | subbAN _ | subAN _ | andAN _ | xorAN _
  | orAN _ | cmpAN _ | jrZ _ | jrNz _ | jrCs _ | jrCc _ | jrLe _ | jrGt _ | jrT _ | jrF _ | ret
  | reti | jr _ | swi | ei | di | jrM _ | jrP _ | jrSlt _ | jrSge _ | jrSle _ | jrSgt _ | jrVs _
  | jrVc _ | pushPsw | popPsw | ldPswN _ | retn => exact ⟨rfl, rfl⟩
  | ldwXMn _ mn | ldwHlMn mn | callMn mn | jpMn mn =>
    refine ⟨?_, rfl⟩
    rw [← mkWord_hiByte_loByte mn]
    simp only [encode, hiByte_mkWord, loByte_mkWord]
    rfl
  -- first opcodes with a field
  | ldAR _ | incR _ | decR _ | ldRA _ =>
    refine .one ?_
    rw [first, row_field]
    change Decoded.instr _ = _
    rw [low3_field rfl, reg8_code8]
  | ldRN _ _ =>
    refine .fieldN ?_ ?_
    · rw [first, row_field]
      change Decoded.instr _ = _
      rw [low3_field rfl, reg8_code8]
    · rw [first, row_field]
      rfl
  | incRr _ | decRr _ =>
    refine .one ?_
    rw [first, row_field]
    change (if low3 (field _ _) = 7 then _ else _) = _
    rw [low3_field rfl, if_neg (code16_ne_seven hi), reg16_code16]
  | ldRrMn rr mn =>
    have hfirst (bs : List Byte) :
        first (field 0x48 (code16 rr)) bs = needWord bs (.ldRrMn rr) := by
      rw [first, row_field]
      change (if low3 (field _ _) = 7 then _ else _) = _
      rw [low3_field rfl, if_neg (code16_ne_seven hi), reg16_code16]
    refine ⟨(hfirst _).trans ?_, hfirst _⟩
    exact congrArg (fun w => Decoded.instr (.ldRrMn rr w)) (mkWord_hiByte_loByte mn)
  | pushRr p | popRr p => exact .one (by cases p <;> rfl)
  | ldCfXB b _ =>
    refine .fieldN ?_ ?_
    · rw [first, row_field]
      change Decoded.instr _ = _
      rw [low3_field rfl]
    · rw [first, row_field]
      rfl
  | setXB b x | clrXB b x =>
    have hbx : ¬ (b = 0 ∧ x = 0x3A) := not_and_or.mpr (by simpa [Instr.wellFormed] using hi)
    refine .fieldN ?_ ?_
    · rw [first, row_field]
      change Decoded.instr (if low3 (field _ b) = 0 ∧ x = 0x3A then _ else _) = _
      rw [low3_field rfl, if_neg hbx]
    · rw [first, row_field]
      rfl
  | callv n => exact .one (by revert n; decide)
  | jrsT d | jrsF d => exact .one (by revert d; decide)
  -- after E8H+g
  | addcRG _ _ | addRG _ _ | subbRG _ _ | subRG _ _ | andRG _ _ | xorRG _ _ | orRG _ _
  | cmpRG _ _ =>
    refine .reg ?_
    rw [afterReg_aluRG ((row_fieldMid _ _).trans rfl), low3_fieldMid, mid3_fieldMid rfl, reg8_code8,
      reg8_code8]
    rfl
  | addcRrGg _ _ | addRrGg _ _ | subbRrGg _ _ | subRrGg _ _ | andRrGg _ _ | xorRrGg _ _ | orRrGg _ _
  | cmpRrGg _ _ =>
    refine .reg ?_
    rw [afterReg_aluRrGg ((row_fieldMid _ _).trans rfl), low3_fieldMid, mid3_fieldMid rfl,
      reg16_code16, reg16_code16]
    rfl
  | addcGN g _ | addGN g _ | subbGN g _ | subGN g _ | andGN g _ | xorGN g _ | orGN g _
  | cmpGN g _ =>
    refine .regN ?_ rfl
    change Decoded.instr _ = _
    rw [reg8_code8]
    rfl
  | addcGgMn gg mn | addGgMn gg mn | subbGgMn gg mn | subGgMn gg mn | andGgMn gg mn | xorGgMn gg mn
  | orGgMn gg mn | cmpGgMn gg mn =>
    refine .regWord ?_ rfl
    change Decoded.instr (aluGgMn _ (reg16 (code16 gg)) (mkWord (hiByte mn) (loByte mn))) = _
    rw [reg16_code16, mkWord_hiByte_loByte]
    rfl
  | ldRG _ _ | xchRG _ _ =>
    refine .reg ?_
    rw [afterReg, row_field]
    change Decoded.instr _ = _
    rw [low3_field rfl, reg8_code8, reg8_code8]
  | xorCfGB _ _ | ldCfGB _ _ | setGB _ _ | clrGB _ _ | cplGB _ _ | ldGBCf _ _ =>
    refine .reg ?_
    rw [afterReg, row_field]
    change Decoded.instr _ = _
    rw [low3_field rfl, reg8_code8]
  | ldRrGg _ _ | xchRrGg _ _ =>
    refine .reg ?_
    rw [afterReg, row_field]
    change (if low3 (field _ _) = 7 then _ else _) = _
    rw [low3_field rfl, if_neg (code16_ne_seven hi), reg16_code16, reg16_code16]
  | pushGg _ | popGg _ | shlca _ | shrca _ | negCs _ | callGg _ | jpGg _ =>
    refine .reg ?_
    change Decoded.instr _ = _
    rw [reg16_code16]
  | daa _ | das _ | shlc _ | shrc _ | rolc _ | rorc _ | swap _ =>
    refine .reg ?_
    change Decoded.instr _ = _
    rw [reg8_code8]
  | mul p => cases p <;> exact ⟨rfl, rfl⟩
  | div p =>
    cases p with
    | bc => cases hi
    | _ => exact ⟨rfl, rfl⟩
  -- after `srcPrefix`
  | addcRSrc _ _ | addRSrc _ _ | subbRSrc _ _ | subRSrc _ _ | andRSrc _ _ | xorRSrc _ _
  | orRSrc _ _ | cmpRSrc _ _ =>
    refine .src ?_
    rw [afterSrc_aluRSrc ((row_fieldMid _ _).trans rfl), low3_fieldMid, mid3_fieldMid rfl,
      reg8_code8]
    rfl
  | addcRrSrc _ _ | addRrSrc _ _ | subbRrSrc _ _ | subRrSrc _ _ | andRrSrc _ _ | xorRrSrc _ _
  | orRrSrc _ _ | cmpRrSrc _ _ =>
    refine .src ?_
    rw [afterSrc_aluRrSrc ((row_fieldMid _ _).trans rfl), low3_fieldMid, mid3_fieldMid rfl,
      reg16_code16]
    rfl
  | ldRSrc _ _ | xchRSrc _ _ =>
    refine .src ?_
    rw [afterSrc, row_field]
    change Decoded.instr _ = _
    rw [low3_field rfl, reg8_code8]
  | ldRrSrc _ _ =>
    refine .src ?_
    rw [afterSrc, row_field]
    change (if low3 (field _ _) = 7 then _ else _) = _
    rw [low3_field rfl, if_neg (code16_ne_seven hi), reg16_code16]
  | xchRrSrc _ _ =>
    refine .src ?_
    rw [afterSrc, row_field]
    change Decoded.instr _ = _
    rw [low3_field rfl, reg16_code16]
  | xorCfSrcB _ _ | ldCfSrcB _ _ | setSrcB _ _ | clrSrcB _ _ | cplSrcB _ _ | ldSrcBCf _ _ =>
    refine .src ?_
    rw [afterSrc, row_field]
    change Decoded.instr _ = _
    rw [low3_field rfl]
  | addcSrcN _ _ | addSrcN _ _ | subbSrcN _ _ | subSrcN _ _ | andSrcN _ _ | xorSrcN _ _ | orSrcN _ _
  | cmpSrcN _ _ => exact .srcN rfl rfl
  | incSrc _ | setSrcA _ | ldSrcACf _ | rold _ | rord _ | decSrc _ | clrSrcA _ | cplSrcA _
  | ldCfSrcA _ | callSrc _ | jpSrc _ => exact .src rfl
  -- after `dstPrefix`
  | ldDstRr _ _ =>
    refine .dst ?_
    rw [afterDst, row_field]
    change (if low3 (field _ _) = 7 then _ else _) = _
    rw [low3_field rfl, if_neg (code16_ne_seven hi), reg16_code16]
  | ldDstR _ _ =>
    refine .dst ?_
    rw [afterDst, row_field]
    change Decoded.instr _ = _
    rw [low3_field rfl, reg8_code8]
  | ldDstN _ _ => exact .dstN rfl rfl

end Sys2Proof.Decode
end

section
/-! PROOFS. O6, O7, O60: the fetch, byte by byte through the regions, and the step that follows. -/

namespace Sys2Proof.Machine

open Sys2Proof.Decode Sys2Proof.Encode

/-- A boundary where nothing is accepted and that is not the run's end (60_exceptions.md R461). -/
theorem step_eq_fetch {s : State} (hhalt : s.haltAddress ≠ some s.pc) (hoffers : s.offers = []) :
    step s = fetch s.pastOffers exec := by
  unfold step
  rw [if_neg hhalt, hoffers, acceptEvent_none]

/-! ## Bytes read one after the other -/

theorem add_ofNat_zero (a : Word) : a + BitVec.ofNat 16 0 = a := BitVec.add_zero a

theorem add_one_ofNat (a : Word) (k : Nat) :
    a + 1 + BitVec.ofNat 16 k = a + BitVec.ofNat 16 (k + 1) := by
  rw [Nat.add_comm, BitVec.ofNat_add, BitVec.add_assoc]
  rfl

@[simp] theorem readRun_length (n : Nat) (a : Word) (s : State) :
    (s.readRun n a).1.length = n := by
  induction n generalizing a s with
  | zero => rfl
  | succ n ih => exact congrArg (· + 1) (ih _ _)

@[simp] theorem readRun_kindAt (n : Nat) (a b : Word) (s : State) :
    (s.readRun n a).2.kindAt b = s.kindAt b := by
  induction n generalizing a s with
  | zero => rfl
  | succ n ih => exact (ih _ _).trans (afterRead_kindAt s a b)

/-- A run of n + 1 bytes ends with the byte n addresses further on. -/
theorem readRun_succ (n : Nat) (a : Word) (s : State) :
    s.readRun (n + 1) a
      = ((s.readRun n a).1 ++ [(s.readRun n a).2.readAt (a + BitVec.ofNat 16 n)],
        (s.readRun n a).2.afterRead (a + BitVec.ofNat 16 n)) := by
  induction n generalizing a s with
  | zero => simp [State.readRun]
  | succ n ih =>
    rw [State.readRun, ih, add_one_ofNat]
    rfl

@[simp] theorem afterRead_pastOffers (s : State) (a : Word) :
    s.pastOffers.afterRead a = (s.afterRead a).pastOffers := by
  unfold State.afterRead
  rw [State.pastOffers_kindAt]
  split <;> rfl

@[simp] theorem readRun_pastOffers (n : Nat) (a : Word) (s : State) :
    s.pastOffers.readRun n a = ((s.readRun n a).1, (s.readRun n a).2.pastOffers) := by
  induction n generalizing a s with
  | zero => rfl
  | succ n ih =>
    rw [State.readRun, afterRead_pastOffers, ih]
    rfl

theorem kindAt_ne_absent_of_plainAt {s : State} {a : Word} (h : plainAt s a = true) :
    s.kindAt a ≠ .absent := by
  intro ha
  simp [plainAt, ha] at h

theorem loadByte_plainAt {s : State} {a : Word} (h : plainAt s a = true)
    (k : Byte → State → Result) : loadByte a s k = k (s.byteAt a) s := by
  simp only [plainAt, Bool.or_eq_true, decide_eq_true_eq] at h
  obtain h | h := h
  · exact loadByte_ram h k
  · exact loadByte_rom h k

/-! ## The fetch -/

section Fetch
variable {a : Word} {s : State} {i : Instr} {read : List Byte} (k : Instr → State → Result)

theorem fetchFrom_next_more (fuel : Nat) (h : s.kindAt a ≠ .absent)
    (hd : decode (read ++ [s.readAt a]) = .more) :
    fetchFrom (fuel + 1) a read s k
      = fetchFrom fuel (a + 1) (read ++ [s.readAt a]) (s.afterRead a) k := by
  rw [fetchFrom, loadByte_readAt h]
  simp only [hd]

theorem fetchFrom_next_instr (fuel : Nat) (h : s.kindAt a ≠ .absent)
    (hd : decode (read ++ [s.readAt a]) = .instr i) :
    fetchFrom (fuel + 1) a read s k = k i (s.afterRead a) := by
  rw [fetchFrom, loadByte_readAt h]
  simp only [hd]

/-- Bytes that do not decide yet are read, whatever their regions. -/
theorem fetchFrom_more {n fuel : Nat}
    (hkind : ∀ j < n, s.kindAt (a + BitVec.ofNat 16 j) ≠ .absent)
    (hmore : decode (read ++ (s.readRun n a).1) = .more) :
    fetchFrom (fuel + n) a read s k = fetchFrom fuel (a + BitVec.ofNat 16 n)
      (read ++ (s.readRun n a).1) (s.readRun n a).2 k := by
  induction n generalizing fuel with
  | zero => simp [State.readRun]
  | succ n ih =>
    rw [readRun_succ] at hmore ⊢
    have hmore' : decode (read ++ (s.readRun n a).1) = .more := by
      by_contra hne
      rw [← List.append_assoc, decode_append hne] at hmore
      exact hne hmore
    have hnext : (s.readRun n a).2.kindAt (a + BitVec.ofNat 16 n) ≠ .absent := by
      simpa using hkind n (Nat.lt_succ_self n)
    rw [← List.append_assoc] at hmore
    rw [show fuel + (n + 1) = (fuel + 1) + n by omega,
      ih (fun j hj => hkind j (Nat.lt_succ_of_lt hj)) hmore',
      fetchFrom_next_more k fuel hnext hmore,
      List.append_assoc, BitVec.ofNat_add, ← BitVec.add_assoc]
    rfl

/-- Bytes that decide with the last one, or before it, read without an effect. -/
theorem fetchFrom_plainAt (bs : List Byte) {fuel : Nat} (hfuel : bs.length ≤ fuel)
    (hplain : ∀ j < bs.length, plainAt s (a + BitVec.ofNat 16 j) = true
      ∧ bs[j]? = some (s.byteAt (a + BitVec.ofNat 16 j)))
    (hread : decode read = .more) (hi : decode (read ++ bs) = .instr i) :
    fetchFrom fuel a read s k = k i s := by
  induction bs generalizing fuel a read with
  | nil =>
    rw [List.append_nil, hread] at hi
    cases hi
  | cons b bs ih =>
    obtain ⟨fuel, rfl⟩ : ∃ f, fuel = f + 1 :=
      Nat.exists_eq_succ_of_ne_zero (Nat.ne_zero_of_lt hfuel)
    obtain ⟨hp, hb⟩ := hplain 0 (Nat.succ_pos _)
    rw [add_ofNat_zero] at hp hb
    obtain rfl : b = s.byteAt a := Option.some.inj hb
    have hsplit : decode (read ++ [s.byteAt a] ++ bs) = .instr i := by simpa using hi
    rw [fetchFrom, loadByte_plainAt hp]
    cases hd : decode (read ++ [s.byteAt a]) with
    | more =>
      refine ih (Nat.le_of_succ_le_succ hfuel) (fun j hj => ?_) hd hsplit
      rw [add_one_ofNat]
      exact hplain (j + 1) (Nat.succ_lt_succ hj)
    | instr i' =>
      rw [decode_append (by rw [hd]; nofun), hd] at hsplit
      cases hsplit
      rfl
    | undefined bytes =>
      rw [decode_append (by rw [hd]; nofun), hd] at hsplit
      cases hsplit

/-- Bytes of which only the last decides, read through the regions. -/
theorem fetch_readRun {t : State} {bs : List Byte}
    (hkind : ∀ j < bs.length, s.kindAt (s.pc + BitVec.ofNat 16 j) ≠ .absent)
    (hrun : s.readRun bs.length s.pc = (bs, t)) (hbs : Exact bs i) : fetch s k = k i t := by
  obtain ⟨n, hn⟩ : ∃ n, bs.length = n + 1 := Nat.exists_eq_succ_of_ne_zero fun h0 => by
    have hwhole := hbs.whole
    rw [List.length_eq_zero_iff.mp h0] at hwhole
    cases hwhole
  rw [hn] at hkind hrun
  rw [readRun_succ, Prod.mk.injEq] at hrun
  obtain ⟨rfl, rfl⟩ := hrun
  obtain ⟨hwhole, hbefore⟩ := hbs
  rw [List.dropLast_concat] at hbefore
  obtain ⟨fuel, hfuel⟩ : ∃ f, 5 = (f + 1) + n := ⟨4 - n, by
    have := length_lt_of_decode_more hbefore
    rw [readRun_length] at this
    omega⟩
  have hlast : (s.readRun n s.pc).2.kindAt (s.pc + BitVec.ofNat 16 n) ≠ .absent := by
    simpa using hkind n (Nat.lt_succ_self n)
  rw [fetch, hfuel,
    fetchFrom_more k (read := []) (fun j hj => hkind j (Nat.lt_succ_of_lt hj)) hbefore]
  exact fetchFrom_next_instr k fuel hlast hwhole

/-- An `absent` address reached before the bytes decide. -/
theorem fetch_absent {n : Nat}
    (hkind : ∀ j < n, s.kindAt (s.pc + BitVec.ofNat 16 j) ≠ .absent)
    (hmore : decode (s.readRun n s.pc).1 = .more)
    (habsent : s.kindAt (s.pc + BitVec.ofNat 16 n) = .absent) :
    fetch s k = .fault (.absentMemory (s.pc + BitVec.ofNat 16 n)) := by
  obtain ⟨fuel, hfuel⟩ : ∃ f, 5 = (f + 1) + n := ⟨4 - n, by
    have := length_lt_of_decode_more hmore
    rw [readRun_length] at this
    omega⟩
  rw [fetch, hfuel, fetchFrom_more k (read := []) hkind hmore, fetchFrom,
    loadByte_absent (by simpa using habsent)]

end Fetch

/-- A step where the five bytes at PC, or the first of them, decide. -/
theorem step_of_decode {s : State} {i : Instr} {bs : List Byte}
    (hhalt : s.haltAddress ≠ some s.pc) (hoffers : s.offers = []) (hlen : bs.length ≤ 5)
    (hbytes : ∀ k < bs.length, plainAt s (s.pc + BitVec.ofNat 16 k) = true
      ∧ bs[k]? = some (s.codeByte k))
    (hi : decode bs = .instr i) : step s = exec i s.pastOffers := by
  rw [step_eq_fetch hhalt hoffers]
  exact fetchFrom_plainAt exec bs hlen hbytes rfl hi

theorem encode_length_le (i : Instr) (hi : i.wellFormed = true) : (encode i).length ≤ 5 := by
  have hlt := length_lt_of_decode_more (encode_exact i hi).before
  rw [List.length_dropLast] at hlt
  omega

end Sys2Proof.Machine

open Sys2Proof Sys2Proof.Machine Sys2Proof.Decode

/-- Settles O6 (`step_of_decode`, all five bytes). -/
theorem stepRunsTheDecodedInstruction : Obligations.StepRunsTheDecodedInstruction := by
  intro s i hhalt hoffers hplain hi
  simp only [plainFetch, Bool.and_eq_true] at hplain
  obtain ⟨⟨⟨⟨h0, h1⟩, h2⟩, h3⟩, h4⟩ := hplain
  refine step_of_decode hhalt hoffers le_rfl (fun k hk => ?_) hi
  change k < 5 at hk
  interval_cases k
  · exact ⟨by rwa [add_ofNat_zero], rfl⟩
  · exact ⟨h1, rfl⟩
  · exact ⟨h2, rfl⟩
  · exact ⟨h3, rfl⟩
  · exact ⟨h4, rfl⟩

/-- Settles O7: the decoder needs the bytes of an encoding, and no more (`encode_exact`). -/
theorem stepRunsTheEncodedInstruction : Obligations.StepRunsTheEncodedInstruction := by
  refine ⟨?plain, ?regions, ?absent⟩
  case plain =>
    intro s i hhalt hoffers hi hbytes
    exact step_of_decode hhalt hoffers (encode_length_le i hi) hbytes (encode_exact i hi).whole
  case regions =>
    intro s t i hhalt hoffers hi hkind hrun
    rw [step_eq_fetch hhalt hoffers]
    refine fetch_readRun exec hkind ?_ (encode_exact i hi)
    rw [State.pastOffers_pc, readRun_pastOffers, hrun]
  case absent =>
    intro s n hhalt hoffers hkind hmore habsent
    rw [step_eq_fetch hhalt hoffers]
    exact fetch_absent exec hkind (by rwa [State.pastOffers_pc, readRun_pastOffers]) habsent

/-- Settles O60: the byte is stored in memory (`storesToMemory`), from where the load
(`loadsFromMemory`) and the fetch (`stepRunsTheEncodedInstruction`) take it. -/
theorem storedByteIsReadBack : Obligations.StoredByteIsReadBack := by
  intro s t e r hram hinv ht
  have hstore := (storesToMemory s 0 0 e r .wa 0 _ hram rfl).2.2.1
  have hu := Host.Outcome.next.inj (hstore.symm.trans ht)
  have hbyte (a : Word) : t.byteAt a = (s.setByte (dstAddr e s) (s.get8 r)).byteAt a := by
    rw [← hu]
    exact dstEnd_byteAt e _ a
  have hram' : t.allRam := fun a => by
    rw [← hu]
    exact (dstEnd_kindAt e _ a).trans (hram a)
  have hsame : t.byteAt (dstAddr e s) = s.get8 r :=
    (hbyte _).trans (State.byteAt_setByte_same s _ _ hinv.1)
  have hother (a : Word) (ha : a ≠ dstAddr e s) : t.byteAt a = s.byteAt a :=
    (hbyte a).trans (State.byteAt_setByte_other s _ a _ ha)
  refine ⟨hsame, hother, fun m q haddr => ?_, fun i hhalt hoffers hi hbytes => ?_⟩
  · refine ⟨_, (loadsFromMemory t 0 m q .wa hram').2.2.1, ?_⟩
    rw [haddr, hsame]
    exact Regs.get8_put8_same _ _ _
  · refine stepRunsTheEncodedInstruction.1 t i hhalt hoffers hi fun k hk => ⟨?_, ?_⟩
    · simp [plainAt, hram' _]
    · rw [hbytes k hk]
      split
      · next hk => rw [State.codeByte, hk, hsame]
      · next hk => rw [State.codeByte, hother _ hk]
end

section
/-! PROOFS. The decoder's answers, for O2 to O4: it reads a well-formed instruction back from its
bytes, and whatever it answers stands for the first bytes of its input (30_encoding.md R100, R104,
R108, R111). -/

namespace Sys2Proof.Decode
open Machine Encode WellFormed

/-! ## An opcode byte is its row and its low bits (30_encoding.md R84) -/

/-- The first opcode byte of row n: its low bits are 0. -/
def rowBase (n : Nat) : Byte := BitVec.ofNat 8 (8 * n)

theorem row_field_rowBase {n : Nat} (hn : n < 32) (c : BitVec 3) :
    row (field (rowBase n) c) = n := by
  rw [row_field]
  revert n
  decide

theorem low3_field_rowBase (n : Nat) (c : BitVec 3) : low3 (field (rowBase n) c) = c := by
  refine low3_field (BitVec.eq_of_toNat_eq ?_) c
  simp [low3, rowBase]

theorem exists_rowBase (b : Byte) : ∃ n < 32, ∃ c : BitVec 3, b = field (rowBase n) c := by
  have hb : ∀ b : Byte, b = field (rowBase (row b)) (low3 b) := by decide
  exact ⟨row b, (b.extractLsb' 3 5).isLt, low3 b, hb b⟩

/-- A property of every 3-bit code, shown for each of the eight. -/
theorem code_cases {P : BitVec 3 → Prop} (c : BitVec 3) (c0 : P 0) (c1 : P 1) (c2 : P 2) (c3 : P 3)
    (c4 : P 4) (c5 : P 5) (c6 : P 6) (c7 : P 7) : P c := by
  obtain ⟨⟨n, hn⟩⟩ := c
  change n < 8 at hn
  interval_cases n
  exacts [c0, c1, c2, c3, c4, c5, c6, c7]

@[simp] theorem code8_reg8 (c : BitVec 3) : code8 (reg8 c) = c := by revert c; decide

@[simp] theorem code16_reg16 (c : BitVec 3) : code16 (reg16 c) = c := by revert c; decide

theorem namedOnce_reg16 : ∀ {c : BitVec 3}, c ≠ 7 → namedOnce (reg16 c) = true := by decide

theorem codePair_pair : ∀ {c : BitVec 3}, c.toNat < 4 →
    (codePair (pair c)).setWidth 8 = c.setWidth 8 := by decide

theorem field_codePair_pair (base : Byte) {c : BitVec 3} (hc : c.toNat < 4) :
    field base (codePair (pair c)) = field base c := by
  rw [field, codePair_pair hc, field]

/-! ## What an answer stands for -/

/-- The thirteen undefined first bytes (30_encoding.md R111 a). -/
def undefinedFirst : List Byte :=
  [0x01, 0x02, 0x03, 0x68, 0x69, 0x6A, 0x6B, 0x6C, 0x6D, 0x6E, 0x6F, 0xF8, 0xF9]

/-- i is well-formed, and bs are its bytes. -/
structure Encodes (bs : List Byte) (i : Instr) : Prop where
  wf : i.wellFormed = true
  bytes : encode i = bs

/-- In the rows 00rrrooo the code r stands in bits 5:3 (30_encoding.md R103). -/
theorem Encodes.lowRows {pre : List Byte} {n : Nat} {o : BitVec 3} {k : Reg8 → Instr} (hn : n < 8)
    (h : ∀ r, Encodes (pre ++ [fieldMid (field 0x00 o) (code8 r)]) (k r)) :
    Encodes (pre ++ [field (rowBase n) o]) (k (reg8 (mid3 (field (rowBase n) o)))) := by
  have hop : ∀ n < 8, ∀ o : BitVec 3,
      fieldMid (field 0x00 o) (mid3 (field (rowBase n) o)) = field (rowBase n) o := by decide
  simpa only [code8_reg8, hop n hn o] using h (reg8 (mid3 (field (rowBase n) o)))

/-- And so in the rows 10rrrooo. -/
theorem Encodes.highRows {pre : List Byte} {n : Nat} {o : BitVec 3} {k : Reg16 → Instr}
    (hle : 16 ≤ n) (hlt : n < 24)
    (h : ∀ rr, Encodes (pre ++ [fieldMid (field 0x80 o) (code16 rr)]) (k rr)) :
    Encodes (pre ++ [field (rowBase n) o]) (k (reg16 (mid3 (field (rowBase n) o)))) := by
  have hop : ∀ n < 24, 16 ≤ n → ∀ o : BitVec 3,
      fieldMid (field 0x80 o) (mid3 (field (rowBase n) o)) = field (rowBase n) o := by decide
  simpa only [code16_reg16, hop n hlt hle o] using h (reg16 (mid3 (field (rowBase n) o)))

/-- bs are all the bytes the answer d speaks of. -/
inductive StandsFor : List Byte → Decoded → Prop
  | instr {bs : List Byte} {i : Instr} (h : Encodes bs i) : StandsFor bs (.instr i)
  | undefined {b : Byte} (hb : b ∈ undefinedFirst) : StandsFor [b] (.undefined [b])

/-- Behind the bytes read, f answers for them and for bytes its own input begins with. -/
def Sound (read : List Byte) (f : List Byte → Decoded) : Prop :=
  ∀ bs, f bs ≠ .more → ∃ used, used <+: read ++ bs ∧ StandsFor used (f bs)

section Sound
variable {read : List Byte}

theorem Sound.instr {i : Instr} (h : Encodes read i) : Sound read fun _ => .instr i :=
  fun bs _ => ⟨read, List.prefix_append read bs, .instr h⟩

theorem Sound.undefined {b : Byte} (hb : b ∈ undefinedFirst) :
    Sound [b] fun _ => .undefined [b] :=
  fun bs _ => ⟨[b], List.prefix_append [b] bs, .undefined hb⟩

theorem Sound.need1 {k : Byte → Instr} (h : ∀ x, Encodes (read ++ [x]) (k x)) :
    Sound read fun bs => need1 bs k
  | [], hmore => absurd rfl hmore
  | x :: bs, _ => ⟨read ++ [x], by simp, .instr (h x)⟩

theorem Sound.need2 {k : Byte → Byte → Instr} (h : ∀ x y, Encodes (read ++ [x, y]) (k x y)) :
    Sound read fun bs => need2 bs k
  | [], hmore | [_], hmore => absurd rfl hmore
  | x :: y :: bs, _ => ⟨read ++ [x, y], by simp, .instr (h x y)⟩

theorem Sound.needWord {k : Word → Instr}
    (h : ∀ w, Encodes (read ++ [loByte w, hiByte w]) (k w)) : Sound read fun bs => needWord bs k :=
  .need2 fun x y => by simpa using h (mkWord y x)

theorem Sound.need1Word {k : Byte → Word → Instr}
    (h : ∀ x w, Encodes (read ++ [x, loByte w, hiByte w]) (k x w)) :
    Sound read fun bs => need1Word bs k
  | [], hmore | [_], hmore | [_, _], hmore => absurd rfl hmore
  | x :: n :: m :: bs, _ =>
    ⟨read ++ [x, n, m], by simp, .instr (by simpa using h x (mkWord m n))⟩

theorem Sound.second {k : Byte → List Byte → Decoded} (h : ∀ op, Sound (read ++ [op]) (k op)) :
    Sound read fun bs => second bs k
  | [], hmore => absurd rfl hmore
  | op :: bs, hmore => by
    simpa [Decode.second] using h op bs hmore

theorem Sound.second1 {k : Byte → Byte → List Byte → Decoded}
    (h : ∀ x op, Sound (read ++ [x, op]) (k x op)) : Sound read fun bs => second1 bs k
  | [], hmore | [_], hmore => absurd rfl hmore
  | x :: op :: bs, hmore => by
    simpa [Decode.second1, Decode.second] using h x op bs hmore

theorem Sound.secondWord {k : Word → Byte → List Byte → Decoded}
    (h : ∀ w op, Sound (read ++ [loByte w, hiByte w, op]) (k w op)) :
    Sound read fun bs => secondWord bs k
  | [], hmore | [_], hmore | [_, _], hmore => absurd rfl hmore
  | w :: v :: op :: bs, hmore => by
    simpa [Decode.secondWord, Decode.second] using h (mkWord v w) op bs hmore

theorem Sound.ite {P : Prop} [Decidable P] {f f' : List Byte → Decoded}
    (hpos : P → Sound read f) (hneg : ¬ P → Sound read f') :
    Sound read fun bs => if P then f bs else f' bs := by
  by_cases hP : P
  · simpa [hP] using hpos hP
  · simpa [hP] using hneg hP

end Sound

/-! ## The operation field (30_encoding.md R103) -/

theorem aluAN_encodes (o : BitVec 3) (n : Byte) : Encodes [field 0x60 o, n] (aluAN o n) := by
  cases o using code_cases <;> exact ⟨rfl, rfl⟩

theorem aluRG_encodes (o g : BitVec 3) (r : Reg8) :
    Encodes ([field 0xE8 g] ++ [fieldMid (field 0x00 o) (code8 r)]) (aluRG o r (reg8 g)) := by
  cases o using code_cases <;> exact ⟨rfl, congrArg (fun q => [field 0xE8 q, _]) (code8_reg8 g)⟩

theorem aluGN_encodes (o g : BitVec 3) (n : Byte) :
    Encodes [field 0xE8 g, field 0x60 o, n] (aluGN o (reg8 g) n) := by
  cases o using code_cases <;> exact ⟨rfl, congrArg (fun q => [field 0xE8 q, _, _]) (code8_reg8 g)⟩

theorem aluGgMn_encodes (o g : BitVec 3) (mn : Word) :
    Encodes [field 0xE8 g, field 0x68 o, loByte mn, hiByte mn] (aluGgMn o (reg16 g) mn) := by
  cases o using code_cases <;>
    exact ⟨rfl, congrArg (fun q => [field 0xE8 q, _, _, _]) (code16_reg16 g)⟩

theorem aluRrGg_encodes (o g : BitVec 3) (rr : Reg16) :
    Encodes ([field 0xE8 g] ++ [fieldMid (field 0x80 o) (code16 rr)]) (aluRrGg o rr (reg16 g)) := by
  cases o using code_cases <;> exact ⟨rfl, congrArg (fun q => [field 0xE8 q, _]) (code16_reg16 g)⟩

theorem aluRSrc_encodes (o : BitVec 3) (r : Reg8) (m : Src) :
    Encodes (srcPrefix m ++ [fieldMid (field 0x00 o) (code8 r)]) (aluRSrc o r m) := by
  cases o using code_cases <;> exact ⟨rfl, rfl⟩

theorem aluSrcN_encodes (o : BitVec 3) (m : Src) (n : Byte) :
    Encodes (srcPrefix m ++ [field 0x60 o, n]) (aluSrcN o m n) := by
  cases o using code_cases <;> exact ⟨rfl, rfl⟩

theorem aluRrSrc_encodes (o : BitVec 3) (rr : Reg16) (m : Src) :
    Encodes (srcPrefix m ++ [fieldMid (field 0x80 o) (code16 rr)]) (aluRrSrc o rr m) := by
  cases o using code_cases <;> exact ⟨rfl, rfl⟩

/-! ## Second opcodes that are undefined (30_encoding.md R111) -/

theorem prefixedSrc_sound (m : Src) {op : Byte} (h : undefAfterSrc op = true) :
    Sound (srcPrefix m ++ [op]) fun _ => .instr (prefixedSrc m op) :=
  .instr (by cases m <;> exact ⟨h, rfl⟩)

theorem prefixedDst_sound (e : Dst) {op : Byte} (h : undefAfterDst op = true) :
    Sound (dstPrefix e ++ [op]) fun _ => .instr (prefixedDst e op) :=
  .instr (by cases e <;> exact ⟨h, rfl⟩)

theorem prefixReg_sound {g : BitVec 3} {op : Byte} (h : undefAfterReg g op = true) :
    Sound ([field 0xE8 g] ++ [op]) fun _ => .instr (.prefixReg g op) :=
  .instr ⟨h, rfl⟩

/-- The second opcodes that stand after E8H alone (30_encoding.md R105). -/
theorem Sound.onlyE8 {g : BitVec 3} {op : Byte} {f : List Byte → Decoded}
    (hop : ∀ g, g ≠ 0 → undefAfterReg g op = true) (h : Sound [0xE8, op] f) :
    Sound ([field 0xE8 g] ++ [op]) fun bs => if g = 0 then f bs else .instr (.prefixReg g op) :=
  .ite (fun hg => by rw [hg]; exact h) fun hg => prefixReg_sound (hop g hg)

theorem undefAfterDst_of_row : ∀ {op : Byte}, row op ≠ 13 → row op ≠ 15 → row op ≠ 31 →
    undefAfterDst op = true := by decide

/-! ## The answers, opcode by opcode: each row of eight codes (30_encoding.md R100, R104, R108) -/

/-- The stores, and nothing else, stand after the bytes of `dstPrefix` (R109). -/
theorem afterDst_sound (e : Dst) (op : Byte) : Sound (dstPrefix e ++ [op]) (afterDst e op) := by
  obtain ⟨n, hn, c, rfl⟩ := exists_rowBase op
  unfold afterDst
  simp only [low3_field_rowBase, row_field_rowBase hn]
  split
  case h_1 =>
    refine .ite (fun hc => prefixedDst_sound e (by rw [hc]; rfl)) fun hc => .instr ?_
    exact ⟨namedOnce_reg16 hc, by simp only [encode, code16_reg16]; rfl⟩
  case h_2 => exact .instr ⟨rfl, by simp only [encode, code8_reg8]; rfl⟩
  case h_3 =>
    refine .ite (fun hc => .need1 fun n => ⟨rfl, ?_⟩) fun hc => prefixedDst_sound e ?_
    · rw [hc, List.append_assoc]; rfl
    · revert hc
      cases c using code_cases <;> decide
  case h_4 h13 h15 h31 =>
    refine prefixedDst_sound e (undefAfterDst_of_row ?_ ?_ ?_) <;> rwa [row_field_rowBase hn]

theorem afterSrc_sound (m : Src) (op : Byte) : Sound (srcPrefix m ++ [op]) (afterSrc m op) := by
  obtain ⟨n, hn, c, rfl⟩ := exists_rowBase op
  unfold afterSrc
  simp only [low3_field_rowBase, row_field_rowBase hn]
  match n, hn with
  | 0, _ | 1, _ | 2, _ | 3, _ | 4, _ | 5, _ | 6, _ | 7, _ =>
    exact .instr (.lowRows (by decide) fun r => aluRSrc_encodes c r m)
  | 16, _ | 17, _ | 18, _ | 19, _ | 20, _ | 21, _ | 22, _ | 23, _ =>
    exact .instr (.highRows (by decide) (by decide) fun rr => aluRrSrc_encodes c rr m)
  | 8, _ | 14, _ | 27, _ => exact .instr ⟨rfl, by simp only [encode, code8_reg8, code16_reg16]; rfl⟩
  | 9, _ =>
    refine .ite (fun hc => prefixedSrc_sound m (by rw [hc]; rfl)) fun hc => .instr ?_
    exact ⟨namedOnce_reg16 hc, by simp only [encode, code16_reg16]; rfl⟩
  | 10, _ | 11, _ | 24, _ | 25, _ | 28, _ | 29, _ => exact .instr ⟨rfl, rfl⟩
  | 12, _ =>
    refine .need1 fun n => ?_
    rw [List.append_assoc]
    exact aluSrcN_encodes c m n
  | 13, _ | 15, _ | 26, _ => exact prefixedSrc_sound m (by cases c using code_cases <;> rfl)
  | 30, _ =>
    cases c using code_cases with
    | c0 | c2 | c3 | c6 | c7 => exact .instr ⟨rfl, rfl⟩
    | c1 | c4 | c5 => exact prefixedSrc_sound m rfl
  | 31, _ =>
    cases c using code_cases with
    | c0 | c2 | c3 | c4 | c5 | c6 => exact .instr ⟨rfl, rfl⟩
    | c1 | c7 => exact prefixedSrc_sound m rfl
  | n + 32, hn => omega

/-- After E8H+g; what one g does not have is a row of `isPrefixRow` (R104 to R107). -/
theorem afterReg_sound (g : BitVec 3) (op : Byte) :
    Sound ([field 0xE8 g] ++ [op]) (afterReg g op) := by
  obtain ⟨n, hn, c, rfl⟩ := exists_rowBase op
  unfold afterReg
  simp only [low3_field_rowBase, row_field_rowBase hn]
  match n, hn with
  | 0, _ | 1, _ | 2, _ | 3, _ | 4, _ | 5, _ | 6, _ | 7, _ =>
    exact .instr (.lowRows (by decide) fun r => aluRG_encodes c g r)
  | 16, _ | 17, _ | 18, _ | 19, _ | 20, _ | 21, _ | 22, _ | 23, _ =>
    exact .instr (.highRows (by decide) (by decide) fun rr => aluRrGg_encodes c g rr)
  | 8, _ | 10, _ | 11, _ | 14, _ | 24, _ | 25, _ | 28, _ | 29, _ =>
    exact .instr ⟨rfl, by simp only [encode, code8_reg8]; rfl⟩
  | 12, _ => exact .need1 (aluGN_encodes c g)
  | 13, _ => exact .needWord (aluGgMn_encodes c g)
  | 9, _ | 15, _ =>
    refine .ite (fun hc => prefixReg_sound (by rw [hc]; rfl)) fun hc => .instr ?_
    exact ⟨namedOnce_reg16 hc, by simp only [encode, code16_reg16]; rfl⟩
  | 26, _ =>
    cases c using code_cases <;> exact .onlyE8 (by decide) (.need1 fun d => ⟨rfl, rfl⟩)
  | 27, _ =>
    cases c using code_cases with
    | c0 | c1 | c2 | c3 => exact .instr ⟨rfl, by simp only [encode, code8_reg8, code16_reg16]; rfl⟩
    | c4 | c5 => exact .onlyE8 (by decide) (.instr ⟨rfl, rfl⟩)
    | c6 => exact .onlyE8 (by decide) (.need1 fun n => ⟨rfl, rfl⟩)
    | c7 => exact prefixReg_sound rfl
  | 30, _ =>
    cases c using code_cases with
    | c2 =>
      refine .ite (fun hg => .instr ⟨rfl, ?_⟩) fun hg => prefixReg_sound ?_
      · rw [encode, field_codePair_pair _ hg]; rfl
      · revert g; decide
    | c3 =>
      refine .ite (fun hg => .instr ⟨?_, ?_⟩) fun hg => prefixReg_sound ?_
      · revert g; decide
      · rw [encode, field_codePair_pair _ hg.1]; rfl
      · revert g; decide
    | c0 | c1 | c4 | c5 | c6 | c7 =>
      exact .instr ⟨rfl, by simp only [encode, code8_reg8, code16_reg16]; rfl⟩
  | 31, _ =>
    cases c using code_cases with
    | c2 | c5 | c6 | c7 => exact .instr ⟨rfl, by simp only [encode, code8_reg8, code16_reg16]; rfl⟩
    | c3 => exact .onlyE8 (by decide) (.instr ⟨rfl, rfl⟩)
    | c0 | c1 | c4 => exact prefixReg_sound rfl
  | n + 32, hn => omega

/-- A first byte is an instruction's, begins one, or is one of the thirteen of R111 a. -/
theorem first_sound (b : Byte) : Sound [b] (first b) := by
  obtain ⟨n, hn, c, rfl⟩ := exists_rowBase b
  unfold first
  simp only [low3_field_rowBase, row_field_rowBase hn]
  match n, hn with
  | 0, _ =>
    cases c using code_cases with
    | c0 | c4 | c5 | c6 => exact .instr ⟨rfl, rfl⟩
    | c7 => exact .need2 fun x n => ⟨rfl, rfl⟩
    | c1 | c2 | c3 => exact .undefined (by decide)
  | 1, _ =>
    cases c using code_cases with
    | c0 => exact .need1Word fun x mn => ⟨rfl, rfl⟩
    | c1 => exact .needWord fun mn => ⟨rfl, rfl⟩
    | c2 => exact .need2 fun x n => ⟨rfl, rfl⟩
    | c3 | c4 | c6 => exact .need1 fun x => ⟨rfl, rfl⟩
    | c5 | c7 => exact .instr ⟨rfl, rfl⟩
  | 2, _ | 4, _ | 5, _ | 8, _ => exact .instr ⟨rfl, by simp only [encode, code8_reg8]; rfl⟩
  | 3, _ => exact .need1 fun n => ⟨rfl, by simp only [encode, code8_reg8]; rfl⟩
  | 6, _ | 7, _ =>
    refine .ite (fun hc => .need1 fun d => ⟨rfl, by rw [hc]; rfl⟩) fun hc => .instr ?_
    exact ⟨namedOnce_reg16 hc, by simp only [encode, code16_reg16]; rfl⟩
  | 9, _ =>
    refine .ite (fun hc => .second fun op => ?_) fun hc => .needWord fun mn => ?_
    · rw [hc]; exact afterSrc_sound .pcA op
    · exact ⟨namedOnce_reg16 hc, by simp only [encode, code16_reg16]; rfl⟩
  | 10, _ =>
    cases c using code_cases with
    | c0 | c1 | c2 | c3 => exact .instr ⟨rfl, rfl⟩
    | c4 => exact .second1 fun d => afterDst_sound (.ixD d)
    | c5 => exact .second1 fun d => afterDst_sound (.iyD d)
    | c6 => exact .second1 fun d => afterDst_sound (.spD d)
    | c7 => exact .second1 fun d => afterDst_sound (.hlD d)
  | 11, _ => exact .need1 fun x => ⟨rfl, rfl⟩
  | 12, _ => exact .need1 fun n => aluAN_encodes c n
  | 13, _ => exact .undefined (by revert c; decide)
  | 14, _ | 15, _ | 16, _ | 17, _ | 18, _ | 19, _ | 20, _ | 21, _ | 22, _ | 23, _ =>
    exact .instr ⟨rfl, by revert c; decide⟩
  | 24, _ | 25, _ =>
    refine .need1 fun x => ?_
    by_cases h : c = 0 ∧ x = 0x3A
    · obtain ⟨rfl, rfl⟩ := h
      exact ⟨rfl, rfl⟩
    · rw [if_neg h]
      exact ⟨by simpa [Instr.wellFormed] using not_and_or.mp h, rfl⟩
  | 26, _ =>
    cases c using code_cases with
    | c0 | c1 | c2 | c3 => exact .instr ⟨rfl, rfl⟩
    | c4 => exact .second1 fun d => afterSrc_sound (.ixD d)
    | c5 => exact .second1 fun d => afterSrc_sound (.iyD d)
    | c6 => exact .second1 fun d => afterSrc_sound (.spD d)
    | c7 => exact .second1 fun d => afterSrc_sound (.hlD d)
  | 27, _ => cases c using code_cases <;> exact .need1 fun d => ⟨rfl, rfl⟩
  | 28, _ =>
    cases c using code_cases with
    | c0 => exact .second1 fun x => afterSrc_sound (.dir8 x)
    | c1 => exact .secondWord fun vw => afterSrc_sound (.dir16 vw)
    | c2 => exact .second (afterSrc_sound .de)
    | c3 => exact .second (afterSrc_sound .hl)
    | c4 => exact .second (afterSrc_sound .ix)
    | c5 => exact .second (afterSrc_sound .iy)
    | c6 => exact .second (afterSrc_sound .incSp)
    | c7 => exact .second (afterSrc_sound .hlC)
  | 29, _ => exact .second (afterReg_sound c)
  | 30, _ =>
    cases c using code_cases with
    | c0 => exact .second1 fun x => afterDst_sound (.dir8 x)
    | c1 => exact .secondWord fun vw => afterDst_sound (.dir16 vw)
    | c2 => exact .second (afterDst_sound .de)
    | c3 => exact .second (afterDst_sound .hl)
    | c4 => exact .second (afterDst_sound .ix)
    | c5 => exact .second (afterDst_sound .iy)
    | c6 => exact .second (afterDst_sound .spDec)
    | c7 => exact .second (afterDst_sound .hlC)
  | 31, _ =>
    cases c using code_cases with
    | c0 | c1 => exact .undefined (by decide)
    | c2 | c3 | c7 => exact .instr ⟨rfl, rfl⟩
    | c4 => exact .need1 fun d => ⟨rfl, rfl⟩
    | c5 | c6 => exact .needWord fun mn => ⟨rfl, rfl⟩
  | n + 32, hn => omega

/-- Whatever the decoder answers stands for bytes the input begins with. -/
theorem decode_sound {bs : List Byte} (h : decode bs ≠ .more) :
    ∃ used, used <+: bs ∧ StandsFor used (decode bs) := by
  cases bs with
  | nil => exact absurd rfl h
  | cons b bs => exact first_sound b bs h

theorem decode_undefinedFirst {b : Byte} (hb : b ∈ undefinedFirst) (rest : List Byte) :
    decode (b :: rest) = .undefined [b] := by
  have h1 : ∀ b ∈ undefinedFirst, decode [b] = .undefined [b] := by decide
  have hne : decode [b] ≠ .more := by rw [h1 b hb]; nofun
  exact (decode_append hne rest).trans (h1 b hb)

end Sys2Proof.Decode

open Sys2Proof Sys2Proof.Machine Sys2Proof.Decode

/-- Settles O2: what the bytes alone decode to (`encode_exact`) stands whatever follows them. -/
theorem decodeInvertsEncode : Obligations.DecodeInvertsEncode := by
  intro i rest hi
  have hwhole := (encode_exact i hi).whole
  rw [decode_append (by rw [hwhole]; nofun), hwhole]

/-- Settles O3, by `decode_sound`. -/
theorem decodedBytesAreItsEncoding : Obligations.DecodedBytesAreItsEncoding := by
  intro bs i hi
  obtain ⟨used, hused, hstands⟩ := decode_sound (bs := bs) (by rw [hi]; nofun)
  rw [hi] at hstands
  cases hstands with
  | instr h => exact ⟨h.wf, h.bytes ▸ hused⟩

/-- Settles O4: five bytes decide (`decode_ne_more`), and what is undefined is one of the thirteen
first bytes (`decode_sound`, `decode_undefinedFirst`). -/
theorem decoderDecidesWithinFiveBytes : Obligations.DecoderDecidesWithinFiveBytes := by
  refine ⟨fun bs => decode_ne_more, fun bs u => ⟨fun hu => ?_, ?_⟩⟩
  · obtain ⟨used, hused, hstands⟩ := decode_sound (bs := bs) (by rw [hu]; nofun)
    rw [hu] at hstands
    cases hstands with
    | undefined hb =>
      obtain ⟨rest, rfl⟩ := hused
      exact ⟨_, rest, rfl, rfl, hb⟩
  · rintro ⟨b, rest, rfl, rfl, hb⟩
    exact decode_undefinedFirst hb rest

end

section
/-! PROOFS. O19 and O49: effective addresses and the targets of relative jumps, over the integers
modulo 65536 (log 19). -/

namespace Sys2Proof.Machine

/-! ## Addresses -/

/-- A sum with a displacement is the sum over the integers, modulo 65536 (30_encoding.md R87). -/
theorem add_sext16_toNat (a : Word) (d : Byte) :
    ((a + sext16 d).toNat : Int) = (a.toNat + d.toInt) % 65536 := by
  have hsum : a + sext16 d = BitVec.ofInt 16 (a.toNat + d.toInt) := by simpa using add_sext16 a 0 d
  rw [hsum, BitVec.toNat_ofInt]
  exact Int.toNat_of_nonneg (Int.emod_nonneg _ (by decide))

theorem sub_one_toNat (a : Word) : ((a - 1).toNat : Int) = ((a.toNat : Int) - 1) % 65536 := by
  have hnat : (a - 1).toNat = (65535 + a.toNat) % 65536 := BitVec.toNat_sub a 1
  omega

theorem mkWord_toNat (hi lo : Byte) : (mkWord hi lo).toNat = 256 * hi.toNat + lo.toNat := by
  rw [mkWord, BitVec.toNat_append, ← Nat.shiftLeft_add_eq_or_of_lt lo.isLt, Nat.shiftLeft_eq,
    Nat.mul_comm]

theorem zext16_toNat (x : Byte) : (zext16 x).toNat = x.toNat := by
  rw [zext16, BitVec.toNat_setWidth]
  omega

/-! ## Relative jumps -/

/-- The short jump goes to the sum over the integers too (R97, R400). -/
theorem jumpRelative_jumps_sext16of5 (s : State) (taken : Bool) (base : Word) (d : BitVec 5)
    (len : Nat) :
    jumps (jumpRelative taken base (sext16of5 d) len s) s taken
      (s.pc.toNat + base.toNat + d.toInt) len := by
  have hsum : s.pc + base + sext16of5 d = BitVec.ofInt 16 (s.pc.toNat + base.toNat + d.toInt) := by
    simp [BitVec.ofInt_add, sext16of5, BitVec.signExtend]
  unfold jumps
  rw [← hsum]
  cases taken <;> rfl

theorem condGt_eq (p : Psw) : condGt p = (!p.cf && !p.zf) := Bool.not_or _ _

theorem condSge_eq (p : Psw) : condSge p = (p.sf == p.vf) := Bool.not_not _

theorem condSgt_eq (p : Psw) : condSgt p = (!p.zf && p.sf == p.vf) := by
  rw [← condSge_eq]
  exact Bool.not_or _ _

end Sys2Proof.Machine

open Sys2Proof Sys2Proof.Machine

/-- Settles O19, by the value of a pair (`mkWord_toNat`) and of a sum (`add_sext16_toNat`); the
destination modes are source modes, but for `(SP-)`. -/
theorem effectiveAddresses : Obligations.EffectiveAddresses := by
  intro s x d vw
  have hhl : (s.get16 .hl).toNat = 256 * s.regs.h.toNat + s.regs.l.toNat := mkWord_toNat _ _
  have hhlPlus (d : Byte) : ((s.get16 .hl + sext16 d).toNat : Int)
      = (256 * s.regs.h.toNat + s.regs.l.toNat + d.toInt) % 65536 := by
    rw [add_sext16_toNat, hhl]
    push_cast
    rfl
  have hpc : ((s.pc + 2 + sext16 s.regs.a).toNat : Int)
      = (s.pc.toNat + 2 + s.regs.a.toInt) % 65536 := by
    have hbase : (s.pc + 2).toNat = (s.pc.toNat + 2) % 65536 := BitVec.toNat_add _ _
    rw [add_sext16_toNat]
    omega
  exact ⟨zext16_toNat x, rfl, mkWord_toNat _ _, hhl, rfl, rfl, BitVec.toNat_add _ _, rfl,
    add_sext16_toNat _ d, add_sext16_toNat _ d, add_sext16_toNat _ d, hhlPlus d, hhlPlus _, hpc,
    rfl, rfl, rfl, rfl, rfl, rfl, rfl, rfl, rfl, rfl, rfl, rfl, sub_one_toNat _⟩

/-- Settles O49: every jump is `jumpRelative` under its condition, with base 2 or 3. -/
theorem relativeJumpsFollowTheirConditions : Obligations.RelativeJumpsFollowTheirConditions := by
  rintro s d e p rfl
  rw [← condGt_eq, ← condSgt_eq, ← condSge_eq]
  have jrs {taken : Bool} := jumpRelative_jumps_sext16of5 s taken 2 e 1
  have jump2 {taken : Bool} := jumpRelative_jumps s taken 2 d 2
  have jump3 {taken : Bool} := jumpRelative_jumps s taken 3 d 3
  exact ⟨jrs, jrs, jump2, jump2, jump2, jump2, jump2, jump2, jump2, jump2, jump3, jump3, jump3,
    jump3, jump3, jump3, jump3, jump3, jump2⟩

end

section
/-! PROOFS. O1, O5: words that decode to their instructions, and encodings that stop the model. -/

namespace Sys2Proof.Machine
open Sys2Proof.Decode Sys2Proof.Encode

/-- The sum and the field are the same first opcode: g does not reach the bits of E8H. -/
theorem add_code_eq_field : ∀ g : BitVec 3, 0xE8 + g.setWidth 8 = field 0xE8 g := by decide

/-- An undefined first byte stops the fetch as soon as it is read (30_encoding.md R112). -/
theorem fetch_undefinedFirst {s : State} (hplain : plainAt s s.pc = true)
    (hb : s.byteAt s.pc ∈ undefinedFirst) (k : Instr → State → Result) :
    fetch s k = .fault (.undefinedInstruction [s.byteAt s.pc]) := by
  rw [fetch, fetchFrom, loadByte_plainAt hplain]
  simp only [List.nil_append, decode_undefinedFirst hb]

theorem codeByte_zero (s : State) : s.codeByte 0 = s.byteAt s.pc := by
  rw [State.codeByte, add_ofNat_zero]

end Sys2Proof.Machine

open Sys2Proof Sys2Proof.Machine

/-- Settles O1: each of the eleven words is evaluated. -/
theorem sampleWordsDecode : Obligations.SampleWordsDecode := by
  unfold Obligations.SampleWordsDecode
  decide

/-- Settles O5: the rows of `isPrefixRow` in every state (`exec_prefixRow`), and the first bytes
where they are fetched (`fetch_undefinedFirst`). -/
theorem undefinedEncodingsStop : Obligations.UndefinedEncodingsStop := by
  refine ⟨fun s g op x vw => ⟨?register, ?memory⟩, fun s hhalt hoffers hplain hb => ?first⟩
  case register =>
    rw [add_code_eq_field]
    exact exec_prefixRow rfl s
  case memory => and_intros <;> exact exec_prefixRow rfl s
  case first =>
    rw [codeByte_zero] at hb ⊢
    rw [step_eq_fetch hhalt hoffers]
    exact fetch_undefinedFirst (s := s.pastOffers) hplain hb exec

end

section
/-! PROOFS. O20, O27: the register forms of LD, and LD SP with an unsigned displacement. -/

namespace Sys2Proof.Machine
open Sys2Proof.Decode Sys2Proof.Encode

/-- An opcode written as a sum is the field put in (30_encoding.md R84), where the base leaves bits
2:0 free. -/
theorem add_code_eq_field_of_low3 {base : Byte} (hbase : low3 base = 0) (c : BitVec 3) :
    base + c.setWidth 8 = field base c := by
  have hdisjoint : base &&& c.setWidth 8 = 0 := by
    ext i hi
    by_cases hlow : i < 3
    · have hbit : base[i] = false := by
        simpa [low3, hlow, hi] using congrArg (fun b : BitVec 3 => b.getLsbD i) hbase
      simp [hbit]
    · simp [BitVec.getLsbD_of_ge c i (by omega)]
  exact BitVec.add_eq_or_of_and_eq_zero _ _ hdisjoint

theorem add_zext16 (w : Word) (d : Byte) : w + zext16 d = BitVec.ofNat 16 (w.toNat + d.toNat) := by
  simp only [zext16, BitVec.ofNat_add, BitVec.ofNat_toNat, BitVec.setWidth_eq]

theorem sub_zext16 (w : Word) (d : Byte) :
    w - zext16 d = BitVec.ofInt 16 ((w.toNat : Int) - d.toNat) := by
  have hres := subN_res w (zext16 d) false
  simpa [subN, zext16_toNat] using hres

end Sys2Proof.Machine

open Sys2Proof Sys2Proof.Machine Sys2Proof.Encode

/-- Settles O20: the byte loads are `loadedReg8`, but for `LD r,n`, which keeps ZF (R143) and is
`transferred` after the byte is written; each opcode is a base with the register in bits 2:0. -/
theorem byteRegisterLoads : Obligations.ByteRegisterLoads := by
  intro s r g n
  have hopcode {base : Byte} (hbase : Decode.low3 base = 0) (q : Reg8) :=
    add_code_eq_field_of_low3 hbase (code8 q)
  rw [hopcode (base := 0x10) rfl, hopcode (base := 0x40) rfl, hopcode (base := 0xE8) rfl,
    hopcode (base := 0x18) rfl]
  exact ⟨loadedReg8_eq .a (s.get8 r) 1 s, loadedReg8_eq r (s.get8 .a) 1 s,
    loadedReg8_eq r (s.get8 g) 2 s, transferred_eq 2 (s.put8 r n), rfl, rfl, rfl, rfl, rfl, rfl, rfl,
    rfl⟩

/-- Settles O27: SP moves by `zext16 d`, in the sum and the difference of the numbers. -/
theorem stackPointerMovesByUnsignedD : Obligations.StackPointerMovesByUnsignedD := by
  intro s d
  rw [← add_zext16, ← sub_zext16]
  exact ⟨transferred_eq 2 (s.putSp (s.sp + zext16 d)), transferred_eq 2 (s.putSp (s.sp - zext16 d))⟩

end

section
/-! PROOFS. O37: decimal sums and differences. A correction adds or subtracts 06H for the low digit
and 60H for the high one. After an addition DAA's table asks for each exactly where that decimal digit
carries, after a subtraction DAS's table exactly where it borrows. -/

namespace Sys2Proof.Machine

theorem hiNibble_toNat (v : Byte) : (hiNibble v).toNat = v.toNat / 16 := by
  have hv := v.isLt
  simp only [hiNibble, BitVec.extractLsb'_toNat, Nat.shiftRight_eq_div_pow]
  omega

theorem loNibble_toNat (v : Byte) : (loNibble v).toNat = v.toNat % 16 := by
  simp only [loNibble, BitVec.extractLsb'_toNat, Nat.shiftRight_zero]

/-! ## The adjustment where a row of the table holds (42 R291, R292) -/

theorem exec_daa_of_row {g : Reg8} {s : State} {adj : Byte} {cf : Bool}
    (h : daaRow s.psw.cf s.psw.hf (hiNibble (s.get8 g)) (loNibble (s.get8 g)) = some (adj, cf)) :
    exec (.daa g) s = .next (s.after8 g (s.get8 g + adj)
      { s.psw with
        jf := cf, zf := s.get8 g + adj == 0, cf := cf
        hf := (addN (s.get8 g) adj false).half } 2) := by
  change adjusted g (daaN _ _ _) s = _
  rw [daaN, h]
  rfl

theorem exec_das_of_row {g : Reg8} {s : State} {sub : Byte} {cf : Bool}
    (h : dasRow s.psw.cf s.psw.hf (hiNibble (s.get8 g)) (loNibble (s.get8 g)) = some (sub, cf)) :
    exec (.das g) s = .next (s.after8 g (s.get8 g - sub)
      { s.psw with
        jf := cf, zf := s.get8 g - sub == 0, cf := cf
        hf := (subN (s.get8 g) sub false).half } 2) := by
  change adjusted g (dasN _ _ _) s = _
  rw [dasN, h]
  rfl

@[simp] theorem State.get8_after8_same (s : State) (r : Reg8) (v : Byte) (p : Psw) (len : Nat) :
    (s.after8 r v p len).get8 r = v := Regs.get8_put8_same s.regs r v

theorem toNat_decide (q : Prop) [Decidable q] : (decide q).toNat = if q then 1 else 0 :=
  Bool.cond_decide q 1 0

/-! ## The nibbles of a sum and of a difference -/

section Nibbles
variable {a b r : Byte} {c : Bool} {p : Psw}

/-- The nibbles add up as digits to base 16: HF is the carry of the low ones, CF of the high
ones. -/
theorem sum_nibbles (hflags : SumFlags a b c p) (hhf : p.hf = halfCarry a b c)
    (hr : r = BitVec.ofNat 8 (a.toNat + b.toNat + c.toNat)) :
    a.toNat % 16 + b.toNat % 16 + c.toNat = r.toNat % 16 + 16 * p.hf.toNat
      ∧ a.toNat / 16 + b.toNat / 16 + p.hf.toNat = r.toNat / 16 + 16 * p.cf.toNat := by
  have hsum : r.toNat = (a.toNat + b.toNat + c.toNat) % 256 := hr ▸ BitVec.toNat_ofNat _ _
  have hcle := c.toNat_le
  rw [hflags.carry, hhf, halfCarry, toNat_decide, toNat_decide]
  split_ifs <;> omega

/-- The nibbles subtract as digits to base 16: HF is the borrow of the low ones, CF of the high
ones. -/
theorem difference_nibbles (hflags : DifferenceFlags a b c p) (hhf : p.hf = halfBorrow a b c)
    (hr : r = BitVec.ofInt 8 (a.toNat - b.toNat - c.toNat)) :
    a.toNat % 16 + 16 * p.hf.toNat = r.toNat % 16 + b.toNat % 16 + c.toNat
      ∧ a.toNat / 16 + 16 * p.cf.toNat = r.toNat / 16 + b.toNat / 16 + p.hf.toNat := by
  have hdiff : (r.toNat : Int) = ((a.toNat : Int) - b.toNat - c.toNat) % 256 := by
    rw [hr, ← subN_res]
    exact subN_toNat a b c
  have hcle := c.toNat_le
  rw [hflags.borrow, hhf, halfBorrow, toNat_decide, toNat_decide]
  split_ifs <;> omega

end Nibbles

/-! ## Decimal digits that carry and that borrow -/

/-- The correction of the low digit, of the high digit, or of both. -/
def digitCorrection (low high : Bool) : Byte :=
  (if low then 0x06 else 0) + (if high then 0x60 else 0)

theorem digitCorrection_toNat (low high : Bool) :
    (digitCorrection low high).toNat = 6 * low.toNat + 96 * high.toNat := by
  cases low <;> cases high <;> rfl

/-- The low digits of a and b and the carry c add up to ten or more. -/
def lowDigitsCarry (a b : Byte) (c : Bool) : Bool :=
  decide (10 ≤ a.toNat % 16 + b.toNat % 16 + c.toNat)

/-- The high digits of a and b and the carry of the low ones add up to ten or more. -/
def highDigitsCarry (a b : Byte) (c : Bool) : Bool :=
  decide (10 ≤ a.toNat / 16 + b.toNat / 16 + (lowDigitsCarry a b c).toNat)

section Digits
variable {a b r v : Byte} {c : Bool} {p : Psw}

/-- DAA's table (42 R291) corrects exactly the digits whose decimal sum carries: in each of its four
parts, by CF and HF, the ranges of the nibbles say which digits those are. -/
theorem daaRow_of_sum (ha : isBcd a) (hb : isBcd b) (hflags : SumFlags a b c p)
    (hhf : p.hf = halfCarry a b c) (hr : r = BitVec.ofNat 8 (a.toNat + b.toNat + c.toNat)) :
    daaRow p.cf p.hf (hiNibble r) (loNibble r)
      = some (digitCorrection (lowDigitsCarry a b c) (highDigitsCarry a b c),
          highDigitsCarry a b c) := by
  obtain ⟨haHigh, haLow⟩ := ha
  obtain ⟨hbHigh, hbLow⟩ := hb
  obtain ⟨hlow, hhigh⟩ := sum_nibbles hflags hhf hr
  have hc := c.toNat_le
  simp only [daaRow, BitVec.le_def, BitVec.reduceToNat, hiNibble_toNat, loNibble_toNat]
  generalize p.cf = cf, p.hf = hf at hlow hhigh
  cases cf <;> cases hf <;> grind [digitCorrection, lowDigitsCarry, highDigitsCarry]

/-- DAS's table (42 R292) corrects exactly the digits whose difference borrows, which HF and CF say;
the nibbles left are always in the range of their row. -/
theorem dasRow_of_difference (ha : isBcd a) (hb : isBcd b) (hflags : DifferenceFlags a b c p)
    (hhf : p.hf = halfBorrow a b c) (hr : r = BitVec.ofInt 8 (a.toNat - b.toNat - c.toNat)) :
    dasRow p.cf p.hf (hiNibble r) (loNibble r) = some (digitCorrection p.hf p.cf, p.cf) := by
  obtain ⟨haHigh, haLow⟩ := ha
  obtain ⟨hbHigh, hbLow⟩ := hb
  obtain ⟨hlow, hhigh⟩ := difference_nibbles hflags hhf hr
  have hc := c.toNat_le
  simp only [dasRow, BitVec.le_def, BitVec.reduceToNat, hiNibble_toNat, loNibble_toNat]
  generalize p.cf = cf, p.hf = hf at hlow hhigh
  cases cf <;> cases hf <;> simp only [Bool.toNat_false, Bool.toNat_true] at hlow hhigh <;>
    exact if_pos (by omega)

/-- 6 more in a nibble whose digit carries makes 16 of the ten, so that it moves on as a carry. -/
theorem corrected_sum (ha : isBcd a) (hb : isBcd b)
    (hr : r = BitVec.ofNat 8 (a.toNat + b.toNat + c.toNat))
    (hv : v = r + digitCorrection (lowDigitsCarry a b c) (highDigitsCarry a b c)) :
    isBcd v ∧ bcdValue v + 100 * (highDigitsCarry a b c).toNat
      = bcdValue a + bcdValue b + c.toNat := by
  obtain ⟨haHigh, haLow⟩ := ha
  obtain ⟨hbHigh, hbLow⟩ := hb
  have hc := c.toNat_le
  have hsum := congrArg BitVec.toNat hv
  rw [hr, BitVec.toNat_add, digitCorrection_toNat, BitVec.toNat_ofNat] at hsum
  have hhigh : (highDigitsCarry a b c).toNat = _ := toNat_decide _
  have hlow : (lowDigitsCarry a b c).toNat = _ := toNat_decide _
  unfold isBcd bcdValue
  split_ifs at hlow hhigh <;> omega

/-- 6 less in a nibble that borrowed makes the 16 it was lent the ten of a decimal borrow. -/
theorem corrected_difference (ha : isBcd a) (hb : isBcd b) (hflags : DifferenceFlags a b c p)
    (hhf : p.hf = halfBorrow a b c) (hr : r = BitVec.ofInt 8 (a.toNat - b.toNat - c.toNat))
    (hv : v = r - digitCorrection p.hf p.cf) :
    isBcd v ∧ (bcdValue v : Int) - 100 * p.cf.toNat = bcdValue a - bcdValue b - c.toNat := by
  obtain ⟨haHigh, haLow⟩ := ha
  obtain ⟨hbHigh, hbLow⟩ := hb
  obtain ⟨hlow, hhigh⟩ := difference_nibbles hflags hhf hr
  have hc := c.toNat_le
  have hdiff := congrArg BitVec.toNat hv
  rw [BitVec.toNat_sub, digitCorrection_toNat] at hdiff
  generalize p.cf = cf, p.hf = hf at hlow hhigh hdiff ⊢
  unfold isBcd bcdValue
  cases cf <;> cases hf <;> simp only [Bool.toNat_false, Bool.toNat_true] at hlow hhigh hdiff ⊢ <;>
    omega

end Digits

end Sys2Proof.Machine

open Sys2Proof Sys2Proof.Machine

/-- Settles O37: ADDC and SUBB leave the sum or difference with its HF and CF (`aluReg8_addc`,
`aluReg8_subb`), DAA and DAS then find a row of their table, and the row's correction makes the
digits decimal. -/
theorem decimalAdjustMakesDecimalSums : Obligations.DecimalAdjustMakesDecimalSums := by
  intro s g n hg hn
  constructor
  · obtain ⟨p, hexec, hflags, -, hhf⟩ := aluReg8_addc s g n 3
    have hr := s.get8_after8_same g
      (BitVec.ofNat 8 ((s.get8 g).toNat + n.toNat + s.psw.cf.toNat)) p 3
    refine ⟨_, _, hexec, exec_daa_of_row (daaRow_of_sum hg hn hflags hhf hr), ?_⟩
    exact corrected_sum hg hn hr (State.get8_after8_same ..)
  · obtain ⟨p, hexec, hflags, -, hhf⟩ := aluReg8_subb s g n 3
    have hr := s.get8_after8_same g
      (BitVec.ofInt 8 ((s.get8 g).toNat - n.toNat - s.psw.cf.toNat)) p 3
    refine ⟨_, _, hexec, exec_das_of_row (dasRow_of_difference hg hn hflags hhf hr), ?_⟩
    exact corrected_difference (p := p) hg hn hflags hhf hr (State.get8_after8_same ..)

end

section
/-! PROOFS. O33, O35, O40: the register forms of the logic operations, INC, DEC and NEG. INC and DEC
are said over the numbers for every width; the register and memory forms are uses of that. -/

namespace Sys2Proof.Machine

/-! ## INC and DEC over the numbers (42 R285 to R290) -/

/-- `incN_byte` at every width: both flags say that v is the greatest number. -/
theorem incN_eq {n : Nat} (v : BitVec n) : incN v
    = (BitVec.ofNat n (v.toNat + 1), decide (2 ^ n ≤ v.toNat + 1), decide (v.toNat = 2 ^ n - 1)) := by
  have hv := v.isLt
  have hgreatest : v = BitVec.allOnes n ↔ v.toNat = 2 ^ n - 1 := by
    rw [← BitVec.toNat_inj, BitVec.toNat_allOnes]
  have hcarry : (v == BitVec.allOnes n) = decide (2 ^ n ≤ v.toNat + 1) := by
    rw [Bool.eq_iff_iff, beq_iff_eq, decide_eq_true_iff, hgreatest]
    omega
  have hzero : (v + 1 == 0) = decide (v.toNat = 2 ^ n - 1) := by
    rw [Bool.eq_iff_iff, beq_iff_eq, decide_eq_true_iff, ← hgreatest, add_eq_zero_iff_eq_neg,
      ← BitVec.neg_one_eq_allOnes]
    rfl
  have hres : v + 1 = BitVec.ofNat n (v.toNat + 1) := by
    rw [BitVec.ofNat_add, BitVec.ofNat_toNat, BitVec.setWidth_eq]
    rfl
  rw [incN, hcarry, hzero, hres]

theorem decN_eq {n : Nat} (hn : 0 < n) (v : BitVec n) : decN v
    = (BitVec.ofInt n (v.toNat - 1), decide (v.toNat < 1), decide (v.toNat = 1)) := by
  have hone : (1 : BitVec n).toNat = 1 := BitVec.toNat_one hn
  have hborrow : (v == 0) = decide (v.toNat < 1) := by
    rw [beq_zero_eq_decide, decide_eq_decide, Nat.lt_one_iff]
  have hzero : (v - 1 == 0) = decide (v.toNat = 1) := by
    rw [Bool.eq_iff_iff, beq_iff_eq, decide_eq_true_iff, sub_eq_zero, ← BitVec.toNat_inj, hone]
  have hres : v - 1 = BitVec.ofInt n (v.toNat - 1) := by
    rw [Int.sub_eq_add_neg, BitVec.ofInt_add, BitVec.ofInt_neg, BitVec.ofInt_natCast,
      BitVec.ofNat_toNat, BitVec.setWidth_eq, BitVec.sub_eq_add_neg]
    rfl
  rw [decN, hborrow, hzero, hres]

/-! ## Their three operand shapes -/

section Shapes
variable {s : State} {j z : Bool}

theorem stepReg8_next {f : Byte → Byte × Bool × Bool} {r : Reg8} {v : Byte}
    (hf : f (s.get8 r) = (v, j, z)) :
    stepReg8 f r s = .next (s.after8 r v { s.psw with jf := j, zf := z } 1) := by
  rw [stepReg8, hf]
  rfl

theorem stepReg16_next {f : Word → Word × Bool × Bool} {rr : Reg16} {v : Word}
    (hf : f (s.get16 rr) = (v, j, z)) :
    stepReg16 f rr s = .next (s.after16 rr v { s.psw with jf := j, zf := z } 1) := by
  rw [stepReg16, hf]
  rfl

theorem stepSrc_allRam (h : s.allRam) {f : Byte → Byte × Bool × Bool} {m : Src} {v : Byte}
    (hf : f (s.byteAt (srcAddr m s)) = (v, j, z)) :
    stepSrc f m s = .next (((srcBegin m s).setByte (srcAddr m s) v).afterFlags
      { s.psw with jf := j, zf := z } (srcLen m 0)) := by
  rw [stepSrc, updateSrcByte_allRam h, hf, putJfZf_advance, State.setByte_psw, srcBegin_psw]

end Shapes

/-- The two's complement is the negation of the number (42 R295). -/
theorem zero_sub_eq_ofInt {n : Nat} (v : BitVec n) : 0 - v = BitVec.ofInt n (-v.toNat) := by
  rw [BitVec.ofInt_neg, BitVec.ofInt_natCast, BitVec.ofNat_toNat, BitVec.setWidth_eq, zero_sub]

end Sys2Proof.Machine

open Sys2Proof Sys2Proof.Machine

/-- Settles O33: every form is the 8-bit or the 16-bit ALU on a register and a value. -/
theorem logicOnRegisters : Obligations.LogicOnRegisters := fun s n r g rr gg mn =>
  ⟨aluReg8_and s .a n 2, aluReg8_or s .a n 2, aluReg8_xor s .a n 2,
    aluReg8_and s g n 3, aluReg8_or s g n 3, aluReg8_xor s g n 3,
    aluReg8_and s r (s.get8 g) 2, aluReg8_or s r (s.get8 g) 2, aluReg8_xor s r (s.get8 g) 2,
    aluReg16_and s gg mn 4, aluReg16_or s gg mn 4, aluReg16_xor s gg mn 4,
    aluReg16_and s rr (s.get16 gg) 2, aluReg16_or s rr (s.get16 gg) 2,
    aluReg16_xor s rr (s.get16 gg) 2⟩

/-- Settles O35, by `incN_byte`, `incN_eq` and `decN_eq` in each of the three operand shapes. -/
theorem incrementAndDecrement : Obligations.IncrementAndDecrement := by
  constructor
  · intro s r rr
    rw [add_code_eq_field_of_low3 (base := 0x20) rfl]
    exact ⟨stepReg8_next (incN_byte _), stepReg8_next (decN_eq (by decide) _),
      stepReg16_next (incN_eq _), rfl, rfl, stepReg16_next (decN_eq (by decide) _)⟩
  · rintro s m _ h rfl
    exact ⟨stepSrc_allRam h (incN_byte _), stepSrc_allRam h (decN_eq (by decide) _)⟩

/-- Settles O40: NEG loads `0 - gg` or `gg` back, and a load sets JF. -/
theorem negateWhenCarrySet : Obligations.NegateWhenCarrySet := by
  intro s gg
  rw [add_code_eq_field_of_low3 (base := 0xE8) rfl, ← zero_sub_eq_ofInt]
  exact ⟨loadedReg16_eq gg _ 2 s, rfl, rfl⟩

end

section
/-! PROOFS. O38, O39: multiplication and division. The product of two bytes fits a word, a quotient
and a remainder below 100H each fill half of one. -/

namespace Sys2Proof.Machine

/-! ## The product (42 R293) -/

theorem mulN_toNat (a b : Byte) : (mulN a b).toNat = a.toNat * b.toNat := by
  have hproduct := Nat.mul_lt_mul_of_lt_of_lt a.isLt b.isLt
  exact Nat.mod_eq_of_lt hproduct

theorem hiByte_mulN_eq_zero (a b : Byte) :
    (hiByte (mulN a b) == 0) = decide (a.toNat * b.toNat < 256) := by
  rw [beq_zero_eq_decide, hiByte_toNat, mulN_toNat, decide_eq_decide]
  omega

theorem exec_mul (q : Pair) (s : State) {a b : Byte} (h : s.get16 (pairReg q) = mkWord a b) :
    exec (.mul q) s = .next (s.after16 (pairReg q) (mulN a b)
      { s.psw with jf := hiByte (mulN a b) == 0, zf := hiByte (mulN a b) == 0 } 2) := by
  change execMul q s = _
  rw [execMul, h, hiByte_mkWord, loByte_mkWord]
  rfl

/-! ## The quotient and the remainder (42 R294) -/

theorem divN_zero {n : Word} {c : Byte} (hc : c.toNat = 0) (free free' : Byte) (z : Bool) :
    divN n c free free' z = { low := free, high := free', zf := z, cf := true, draws := 3 } :=
  if_pos (BitVec.eq_of_toNat_eq hc)

section Divide
variable {n : Word} {c : Byte} (hc : c.toNat ≠ 0) (free free' : Byte) (z : Bool)
include hc

theorem divN_overflow (hq : 256 ≤ n.toNat / c.toNat) : divN n c free free' z
    = { low := free, high := free', zf := n.toNat % c.toNat == 0, cf := true, draws := 2 } :=
  (if_neg (ne_of_apply_ne BitVec.toNat hc)).trans (if_pos hq)

theorem divN_fits (hq : n.toNat / c.toNat < 256) : divN n c free free' z
    = { low := BitVec.ofNat 8 (n.toNat / c.toNat), high := BitVec.ofNat 8 (n.toNat % c.toNat)
        zf := n.toNat % c.toNat == 0, cf := false, draws := 0 } :=
  (if_neg (ne_of_apply_ne BitVec.toNat hc)).trans (if_neg (Nat.not_le_of_lt hq))

end Divide

theorem mkWord_ofNat (hi : Nat) {lo : Nat} (hlo : lo < 256) :
    mkWord (BitVec.ofNat 8 hi) (BitVec.ofNat 8 lo) = BitVec.ofNat 16 (256 * hi + lo) := by
  apply BitVec.eq_of_toNat_eq
  simp only [mkWord_toNat, BitVec.toNat_ofNat]
  omega

theorem exec_div {q : Pair} {s : State} {x : Quotient}
    (h : divN (s.get16 (pairReg q)) s.regs.c (Config.divOverflowValue s.draws)
      (Config.divOverflowValue (s.draws + 1)) (Config.undefFlagValue (s.draws + 2)) = x) :
    exec (.div q) s = .next
      { s.after16 (pairReg q) (mkWord x.high x.low)
          { s.psw with jf := x.zf, zf := x.zf, cf := x.cf } 2 with
        draws := s.draws + x.draws } := by
  subst h
  rfl

end Sys2Proof.Machine

open Sys2Proof Sys2Proof.Machine

/-- Settles O38: the product is `mulN`, whose upper byte is zero below 256. -/
theorem multiplyReplacesThePair : Obligations.MultiplyReplacesThePair := by
  intro s q a b h
  rw [exec_mul q s h, hiByte_mulN_eq_zero, mulN]

/-- Settles O39, by the three cases of `divN`: the free values it draws are the witnesses. -/
theorem divideLeavesQuotientAndRemainder : Obligations.DivideLeavesQuotientAndRemainder := by
  rintro s q _ _ - rfl rfl
  refine ⟨fun hc hq => ?_, fun hc hq => ⟨_, exec_div (divN_overflow hc _ _ _ hq)⟩,
    fun hc => ⟨_, _, exec_div (divN_zero hc _ _ _)⟩⟩
  rw [exec_div (divN_fits hc _ _ _ hq), mkWord_ofNat _ hq]
  rfl

end

section
/-! PROOFS. O36: the decision trees of DAA and DAS answer the row of their table that holds, and
nothing where none does. In each of the four parts by CF and HF, the ranges of the nibbles decide. -/

namespace Sys2Proof.Machine

/-! ## The trees and the tables (42 R291, R292) -/

section Tables
variable {row : AdjustRow} {g : Byte} {p : Psw}

theorem daaRow_of_matches (hrow : row ∈ daaTable) (h : row.matches g p) :
    daaRow p.cf p.hf (hiNibble g) (loNibble g) = some (BitVec.ofNat 8 row.add, row.cfAfter) := by
  obtain ⟨hcf, hhf, hnibbles⟩ := h
  simp only [daaRow, hcf, hhf, BitVec.le_def, BitVec.reduceToNat, hiNibble_toNat, loNibble_toNat]
  simp only [daaTable, List.mem_cons, List.not_mem_nil, or_false] at hrow
  rcases hrow with rfl | rfl | rfl | rfl | rfl | rfl | rfl | rfl | rfl <;> grind

/-- Every branch that answers stays within a row. -/
theorem daaRow_eq_none (h : ∀ row ∈ daaTable, ¬ row.matches g p) :
    daaRow p.cf p.hf (hiNibble g) (loNibble g) = none := by
  have hg := g.isLt
  simp only [daaTable, List.forall_mem_cons, AdjustRow.matches] at h
  simp only [daaRow, BitVec.le_def, BitVec.reduceToNat, hiNibble_toNat, loNibble_toNat]
  generalize p.cf = cf, p.hf = hf at h
  cases cf <;> cases hf <;> grind

/-- What DAS's table adds, its tree subtracts. -/
theorem dasRow_of_matches (hrow : row ∈ dasTable) (h : row.matches g p) :
    dasRow p.cf p.hf (hiNibble g) (loNibble g)
      = some (-BitVec.ofNat 8 row.add, row.cfAfter) := by
  obtain ⟨hcf, hhf, hnibbles⟩ := h
  simp only [dasRow, hcf, hhf, BitVec.le_def, BitVec.reduceToNat, hiNibble_toNat, loNibble_toNat]
  simp only [dasTable, List.mem_cons, List.not_mem_nil, or_false] at hrow
  rcases hrow with rfl | rfl | rfl | rfl <;> dsimp only at hnibbles <;> exact if_pos (by omega)

/-- Every branch that answers is a row. -/
theorem dasRow_eq_none (h : ∀ row ∈ dasTable, ¬ row.matches g p) :
    dasRow p.cf p.hf (hiNibble g) (loNibble g) = none := by
  have hg := g.isLt
  simp only [dasTable, List.forall_mem_cons, AdjustRow.matches] at h
  simp only [dasRow, BitVec.le_def, BitVec.reduceToNat, hiNibble_toNat, loNibble_toNat]
  generalize p.cf = cf, p.hf = hf at h
  cases cf <;> cases hf <;> grind

/-! ## HF after the adjustment -/

theorem addN_ofNat_half (g : Byte) (n : Nat) :
    (addN g (BitVec.ofNat 8 n) false).half = decide (16 ≤ g.toNat % 16 + n % 16) := by
  change decide (16 ≤ g.toNat % 16 + (BitVec.ofNat 8 n).toNat % 16 + 0) = _
  rw [BitVec.toNat_ofNat, decide_eq_decide]
  omega

/-- The subtraction borrows from no low nibble: a row that subtracts 6 there asks for 6 or more. -/
theorem subN_half_of_matches (hrow : row ∈ dasTable) (h : row.matches g p) :
    (subN g (-BitVec.ofNat 8 row.add) false).half = false := by
  obtain ⟨-, -, hnibbles⟩ := h
  simp only [dasTable, List.mem_cons, List.not_mem_nil, or_false] at hrow
  change decide (g.toNat % 16 < (-BitVec.ofNat 8 row.add).toNat % 16 + 0) = false
  rw [decide_eq_false_iff_not]
  rcases hrow with rfl | rfl | rfl | rfl <;> dsimp only at hnibbles <;>
    simp only [BitVec.reduceNeg, BitVec.reduceToNat] <;> omega

end Tables

/-! ## The adjustment where no row holds (log 15) -/

theorem exec_daa_of_no_row {g : Reg8} {s : State}
    (h : daaRow s.psw.cf s.psw.hf (hiNibble (s.get8 g)) (loNibble (s.get8 g)) = none) :
    exec (.daa g) s = adjusted g (adjustedFree (Config.daaOutOfTable s.draws)) s := by
  change adjusted g (daaN _ _ _) s = _
  rw [daaN, h]

theorem exec_das_of_no_row {g : Reg8} {s : State}
    (h : dasRow s.psw.cf s.psw.hf (hiNibble (s.get8 g)) (loNibble (s.get8 g)) = none) :
    exec (.das g) s = adjusted g (adjustedFree (Config.daaOutOfTable s.draws)) s := by
  change adjusted g (dasN _ _ _) s = _
  rw [dasN, h]

theorem adjusted_eq (g : Reg8) (x : Adjusted) (s : State) : adjusted g x s = .next
    { s.after8 g x.res
        { s.psw with jf := x.cf, zf := decide (x.res = 0), cf := x.cf, hf := x.hf } 2 with
      draws := s.draws + x.draws } := rfl

end Sys2Proof.Machine

open Sys2Proof Sys2Proof.Machine

/-- Settles O36: a row that holds is what the tree answers (`daaRow_of_matches`,
`dasRow_of_matches`); where none holds the witnesses are the free values drawn. -/
theorem decimalAdjustFollowsItsTable : Obligations.DecimalAdjustFollowsItsTable := by
  intro s g
  refine ⟨fun row hrow h => ⟨_, rfl, ?_⟩, fun row hrow h => ⟨_, rfl, ?_⟩,
    fun h => ⟨_, _, _, (exec_daa_of_no_row (daaRow_eq_none h)).trans (adjusted_eq _ _ _)⟩,
    fun h => ⟨_, _, _, (exec_das_of_no_row (dasRow_eq_none h)).trans (adjusted_eq _ _ _)⟩⟩
  · rw [exec_daa_of_row (daaRow_of_matches hrow h), addN_ofNat_half]
    rfl
  · rw [exec_das_of_row (dasRow_of_matches hrow h), subN_half_of_matches hrow h, sub_neg_eq_add]
    rfl

end

section
/-! PROOFS. O41, O43: the shifts and rotates of a byte, and the rotates by a nibble. A shift doubles
or halves the number and leaves the bit that CF fills clear, so that a rotate adds CF's weight; two
nibbles put together are the digits of a number to base 16. -/

namespace Sys2Proof.Machine

/-! ## A bit put where it is clear -/

theorem bitMask_eq_ofNat (b : BitVec 3) : bitMask b = BitVec.ofNat 8 (2 ^ b.toNat) := by
  apply BitVec.eq_of_toNat_eq
  rw [bitMask, BitVec.toNat_shiftLeft, Nat.shiftLeft_eq, BitVec.toNat_ofNat, BitVec.toNat_ofNat,
    Nat.one_mod, Nat.one_mul]

theorem and_bitMask_of_clear {v : Byte} {b : BitVec 3} (h : v.getLsbD b.toNat = false) :
    v &&& bitMask b = 0 := by
  apply BitVec.eq_of_getLsbD_eq
  intro k hk
  rw [BitVec.getLsbD_and, bitMask_getLsbD b hk]
  by_cases hkb : k = b.toNat
  · simp [hkb, h]
  · simp [hkb]

theorem bitClear_of_clear {v : Byte} {b : BitVec 3} (h : v.getLsbD b.toNat = false) :
    bitClear v b = v := by
  apply BitVec.eq_of_getLsbD_eq
  intro k hk
  rw [isWithBit_bitClear v b k hk]
  split
  · rw [‹k = b.toNat›, h]
  · rfl

/-- A bit written where it was clear adds its weight. -/
theorem bitPut_of_clear {v : Byte} {b : BitVec 3} (h : v.getLsbD b.toNat = false) (c : Bool) :
    bitPut v b c = v + BitVec.ofNat 8 (2 ^ b.toNat * c.toNat) := by
  cases c with
  | false => exact (bitClear_of_clear h).trans (BitVec.add_zero v).symm
  | true =>
    rw [Bool.toNat_true, Nat.mul_one, ← bitMask_eq_ofNat,
      BitVec.add_eq_or_of_and_eq_zero _ _ (and_bitMask_of_clear h)]
    rfl

/-! ## SHLC, SHRC, ROLC, RORC over the numbers (43 R331 to R334) -/

theorem shlcN_eq (v : Byte) :
    shlcN v = (BitVec.ofNat 8 (2 * v.toNat), decide (128 ≤ v.toNat)) := by
  have hres : v <<< 1 = BitVec.ofNat 8 (2 * v.toNat) := by bv_omega
  have hout : v.getLsbD 7 = decide (128 ≤ v.toNat) :=
    (BitVec.msb_eq_getLsbD_last v).symm.trans (BitVec.msb_eq_decide v)
  rw [shlcN, hres, hout]

theorem shrcN_eq (v : Byte) :
    shrcN v = (BitVec.ofNat 8 (v.toNat / 2), decide (v.toNat % 2 = 1)) := by
  have hres : v >>> 1 = BitVec.ofNat 8 (v.toNat / 2) := by bv_omega
  rw [shrcN, hres, getLsbD_zero_eq_odd]

/-- SHLC, and the old CF added in bit 0. -/
theorem rolcN_eq (v : Byte) (c : Bool) :
    rolcN v c = (BitVec.ofNat 8 (2 * v.toNat + c.toNat), decide (128 ≤ v.toNat)) := by
  obtain ⟨hres, hout⟩ := Prod.mk.inj (shlcN_eq v)
  have hclear : (v <<< 1).getLsbD (0 : BitVec 3).toNat = false := by simp
  rw [rolcN, bitPut_of_clear hclear, hres, hout, ← BitVec.ofNat_add]
  simp

/-- SHRC, and the old CF added in bit 7. -/
theorem rorcN_eq (v : Byte) (c : Bool) :
    rorcN v c = (BitVec.ofNat 8 (v.toNat / 2 + 128 * c.toNat), decide (v.toNat % 2 = 1)) := by
  obtain ⟨hres, hout⟩ := Prod.mk.inj (shrcN_eq v)
  have hclear : (v >>> 1).getLsbD (7 : BitVec 3).toNat = false := by simp
  rw [rorcN, bitPut_of_clear hclear, hres, hout, ← BitVec.ofNat_add]
  rfl

section Shifted
variable {x : Byte × Bool} {n : Nat} {c : Bool} (hx : x = (BitVec.ofNat 8 n, c)) (g : Reg8)
  (s : State)
include hx

theorem shiftedReg8_next : shiftedReg8 g x s = .next (s.after8 g (BitVec.ofNat 8 n)
    { s.psw with jf := c, zf := decide (n % 256 = 0), cf := c } 2) := by
  rw [shiftedReg8, hx, beq_zero_eq_decide, BitVec.toNat_ofNat]
  rfl

theorem shiftedReg8_next_of_lt (hn : n < 256) : shiftedReg8 g x s = .next
    (s.after8 g (BitVec.ofNat 8 n) { s.psw with jf := c, zf := decide (n = 0), cf := c } 2) := by
  rw [shiftedReg8_next hx, Nat.mod_eq_of_lt hn]

end Shifted

/-! ## SWAP, ROLD, RORD (43 R338 to R340) -/

theorem mkByte_eq_ofNat (hi lo : BitVec 4) :
    mkByte hi lo = BitVec.ofNat 8 (16 * hi.toNat + lo.toNat) := by
  have hhi := hi.isLt
  have hlo := lo.isLt
  apply BitVec.eq_of_toNat_eq
  rw [mkByte, BitVec.toNat_append, ← Nat.shiftLeft_add_eq_or_of_lt hlo, Nat.shiftLeft_eq,
    BitVec.toNat_ofNat]
  omega

theorem exec_rold (m : Src) (s : State) : exec (.rold m) s
    = updateSrcByte m (fun v => mkByte (loNibble v) (loNibble s.regs.a)) s fun v s =>
      transferred (srcLen m 0) (s.put8 .a (mkByte (hiNibble s.regs.a) (hiNibble v))) := rfl

theorem exec_rord (m : Src) (s : State) : exec (.rord m) s
    = updateSrcByte m (fun v => mkByte (loNibble s.regs.a) (hiNibble v)) s fun v s =>
      transferred (srcLen m 0) (s.put8 .a (mkByte (hiNibble s.regs.a) (loNibble v))) := rfl

/-- What ROLD and RORD share: the byte read is written back as `f` of it, and A keeps its upper
nibble and takes a digit of that byte as the lower. -/
theorem rotateDigit_allRam {s : State} (h : s.allRam) (m : Src) (f : Byte → Byte)
    (digit : Byte → BitVec 4) :
    updateSrcByte m f s (fun v s =>
      transferred (srcLen m 0) (s.put8 .a (mkByte (hiNibble s.regs.a) (digit v))))
    = .next (((srcBegin m s).setByte (srcAddr m s) (f (s.byteAt (srcAddr m s)))).after8 .a
        (mkByte (hiNibble s.regs.a) (digit (s.byteAt (srcAddr m s))))
        { s.psw with jf := true } (srcLen m 0)) := by
  have ha : (srcBegin m s).regs.a = s.regs.a := srcBegin_get8 m s .a
  rw [updateSrcByte_allRam h, State.setByte_regs, ha, transferred_eq, State.put8_psw,
    State.setByte_psw, srcBegin_psw]
  rfl

end Sys2Proof.Machine

open Sys2Proof Sys2Proof.Machine

/-- Settles O41: each is `shiftedReg8` of a number; after a move to the right it fits the byte. -/
theorem byteShiftsAndRotates : Obligations.ByteShiftsAndRotates := by
  rintro s g _ rfl
  have hhalf : (s.get8 g).toNat / 2 < 128 := Nat.div_lt_of_lt_mul (s.get8 g).isLt
  have hcf := s.psw.cf.toNat_le
  rw [add_code_eq_field_of_low3 (base := 0xE8) rfl]
  exact ⟨⟨shiftedReg8_next (shlcN_eq _) g s,
      shiftedReg8_next_of_lt (shrcN_eq _) g s (by omega),
      shiftedReg8_next (rolcN_eq _ _) g s,
      shiftedReg8_next_of_lt (rorcN_eq _ _) g s (by omega)⟩,
    rfl, rfl, rfl, rfl, rfl, rfl, rfl, rfl⟩

/-- Settles O43: the nibbles put together are `mkByte`, a number to base 16 (`mkByte_eq_ofNat`). -/
theorem nibblesRotate : Obligations.NibblesRotate := by
  constructor
  · intro s g
    rw [← hiNibble_toNat, ← loNibble_toNat, ← mkByte_eq_ofNat]
    exact transferred_eq 2 (s.put8 g _)
  · rintro s m _ _ h rfl rfl
    simp only [← hiNibble_toNat, ← loNibble_toNat, ← mkByte_eq_ofNat]
    exact ⟨(exec_rold m s).trans (rotateDigit_allRam h m _ hiNibble),
      (exec_rord m s).trans (rotateDigit_allRam h m _ loNibble)⟩

end

section
/-! PROOFS. O44 to O47: SET, CLR, CPL, LD and XOR of one bit, and CF. The byte written is the old one
with that bit changed, which `isWithBit` says of `bitSet`, `bitClear`, `bitFlip` and `bitPut`; a
register and a memory byte are two places of it. -/

namespace Sys2Proof.Machine

/-- The bit number in A is A modulo 8 (44 R350 (1)). -/
theorem eq_bitNumberA {s : State} {k : BitVec 3} (hk : k.toNat = s.regs.a.toNat % 8) :
    k = bitNumberA s :=
  BitVec.eq_of_toNat_eq (hk.trans (BitVec.extractLsb'_toNat 0 3 s.regs.a).symm)

/-- SET, CLR or CPL of a bit of a register (44 R354, R357, R360). -/
theorem changeRegBit_changesRegBit {s : State} {f : Byte → BitVec 3 → Byte} {g : Reg8}
    {b : BitVec 3} {c : Bool} (hf : isWithBit (s.get8 g) (f (s.get8 g) b) b c) :
    changesRegBit (changeRegBit f g b s) s g b c := ⟨_, hf, rfl⟩

theorem carryLoaded_loadsCarry (c : Bool) (len : Nat) (s : State) :
    loadsCarry (carryLoaded c len s) s c len := rfl

section AllRam
variable {s : State} (h : s.allRam)
include h

/-- LD of CF into a bit of memory (44 R375, R376). -/
theorem putSrcBit_changesBit (m : Src) (b : BitVec 3) :
    ∃ v, isWithBit (s.byteAt (srcAddr m s)) v b s.psw.cf
      ∧ putSrcBit m b s = .next (((srcBegin m s).setByte (srcAddr m s) v).afterFlags
          { s.psw with jf := true } (srcLen m 0)) := by
  refine ⟨_, isWithBit_bitPut _ b s.psw.cf, ?_⟩
  rw [putSrcBit, updateSrcByte_allRam h, transferred_eq, State.setByte_psw, srcBegin_psw]

/-- LD CF and XOR CF of memory: CF becomes a function c of the byte and the old CF (44 R371, R372,
R378). -/
theorem withSrcByte_loadsCarry (m : Src) (c : Byte → Bool → Bool) (len : Nat) :
    loadsCarry (withSrcByte m s fun v t => carryLoaded (c v t.psw.cf) len t) (srcBegin m s)
      (c (s.byteAt (srcAddr m s)) s.psw.cf) len := by
  rw [withSrcByte_allRam h, srcBegin_psw]
  exact carryLoaded_loadsCarry _ len _

theorem testSrcBit_loadsCarry (m : Src) (b : BitVec 3) (len : Nat) :
    loadsCarry (testSrcBit m b len s) (srcBegin m s)
      ((s.byteAt (srcAddr m s)).getLsbD b.toNat) len :=
  withSrcByte_loadsCarry h m (fun v _ => bitOf v b) len

end AllRam

end Sys2Proof.Machine

open Sys2Proof Sys2Proof.Machine

/-- Settles O44: SET, CLR and CPL are `changeRegBit`, and LD writes `bitPut` of the register. -/
theorem registerBitsChangeAlone : Obligations.RegisterBitsChangeAlone := by
  intro s g b
  exact ⟨changeRegBit_changesRegBit (isWithBit_bitSet _ b),
    changeRegBit_changesRegBit (isWithBit_bitClear _ b),
    changeRegBit_changesRegBit (isWithBit_bitFlip _ b),
    _, isWithBit_bitPut _ b s.psw.cf, transferred_eq 2 (s.put8 g _)⟩

/-- Settles O45: every form is `changeSrcBit` or `putSrcBit`, of the bit in the opcode or in A
(`eq_bitNumberA`). -/
theorem memoryBitsChangeAlone : Obligations.MemoryBitsChangeAlone := by
  rintro s m b k x _ h rfl hk
  obtain rfl := eq_bitNumberA hk
  have hset {m : Src} {len : Nat} (b : BitVec 3) :=
    changeSrcBit_changesMemBit (m := m) (len := len) h (isWithBit_bitSet _ b)
  have hclr {m : Src} {len : Nat} (b : BitVec 3) :=
    changeSrcBit_changesMemBit (m := m) (len := len) h (isWithBit_bitClear _ b)
  have hcpl (b : BitVec 3) :=
    changeSrcBit_changesMemBit (m := m) (len := srcLen m 0) h (isWithBit_bitFlip _ b)
  exact ⟨hset b, hclr b, hcpl b, hset (m := .dir8 x) b, hclr (m := .dir8 x) b, hset _, hclr _,
    hcpl _, putSrcBit_changesBit h m b, putSrcBit_changesBit h m _⟩

/-- Settles O46: the register forms are `carryLoaded`, the memory forms the same after one byte
read. -/
theorem bitsLoadTheCarry : Obligations.BitsLoadTheCarry := by
  constructor
  · intro s g b
    exact ⟨carryLoaded_loadsCarry _ 2 s, carryLoaded_loadsCarry _ 2 s⟩
  · intro s m b k x h hk
    obtain rfl := eq_bitNumberA hk
    exact ⟨testSrcBit_loadsCarry h (.dir8 x) b 2, testSrcBit_loadsCarry h m b _,
      withSrcByte_loadsCarry h m (fun v cf => cf ^^ bitOf v b) _, testSrcBit_loadsCarry h m _ _⟩

/-- Settles O47: each is `carryLoaded`; CPL CF leaves in JF the old CF, inverted twice. -/
theorem carryFlagInstructions : Obligations.CarryFlagInstructions := by
  refine ⟨fun s => ⟨carryLoaded_loadsCarry true 1 s, carryLoaded_loadsCarry false 1 s, ?_⟩,
    rfl, rfl, rfl, rfl, rfl, rfl⟩
  have hcpl : loadsCarry (exec .cplCf s) s (!s.psw.cf) 1 := carryLoaded_loadsCarry _ 1 s
  rwa [loadsCarry, Bool.not_not] at hcpl

end

section
/-! PROOFS. O50: the jumps to an absolute address. Each ends in one write of PC; only `JP (src)`
reads memory first. -/

namespace Sys2Proof.Machine

theorem exec_jpMn (mn : Word) (s : State) : exec (.jpMn mn) s = .next (s.putPc mn) := rfl

theorem exec_jpGg (gg : Reg16) (s : State) : exec (.jpGg gg) s = .next (s.putPc (s.get16 gg)) := rfl

theorem exec_jpSrc (m : Src) (s : State) :
    exec (.jpSrc m) s = withSrcWord m s fun t s => .next (s.putPc t) := rfl

/-- The target of `JP (src)` is the word in memory, and only the address forming of `(+SP)` changes
more than PC (45 R422). -/
theorem exec_jpSrc_allRam {s : State} (h : s.allRam) (m : Src) :
    exec (.jpSrc m) s = .next ((srcBegin m s).putPc (s.wordAt (srcAddr m s))) := by
  rw [exec_jpSrc, withSrcWord_ram h]

end Sys2Proof.Machine

open Sys2Proof Sys2Proof.Machine

/-- Settles O50: each is one `putPc`, of mn, of gg, or of the word read (`exec_jpSrc_allRam`). -/
theorem jumpsReachTheirTarget : Obligations.JumpsReachTheirTarget := by
  refine ⟨fun s mn gg => ⟨exec_jpMn mn s, rfl, rfl, exec_jpGg gg s, ?_, rfl⟩,
    fun s m h => exec_jpSrc_allRam h m⟩
  rw [add_code_eq_field]
  rfl

end

section
/-! PROOFS. O52, O53, O56: the return from a subroutine and from a handler, and NOP. A return reads the
word that lies above SP, and there the call or SWI left the return address; RETI also reads the byte
above it, bits 7 to 2 of which are the flags and bit 0 IMF. -/

namespace Sys2Proof.Machine

theorem exec_nop (s : State) : exec .nop s = .next (s.advance 1) := rfl

/-! ## RET after a push (46 R430, R440) -/

theorem exec_ret_allRam {s : State} (h : s.allRam) :
    exec .ret s = .next { s.putSp (s.sp + 2) with pc := s.wordAt (s.sp + 1) } :=
  (exec_ret s).trans (pop16_allRam h _)

/-- RET takes off the stack what the call pushed, wherever PC was led between them. -/
theorem exec_ret_of_pushed {s : State} (h : s.allRam) (hw : Memory.wf s.mem = true)
    {ra target : Word} {x : Result} (hx : x = .next { s.pushed ra with pc := target }) (pc : Word) :
    ∃ t u, x = .next t ∧ exec .ret { t with pc := pc } = .next u
      ∧ u.pc = ra ∧ u.regs = s.regs ∧ u.psw = s.psw := by
  have hret := exec_ret_allRam (s := { s.pushed ra with pc := pc }) h
  refine ⟨_, _, hx, hret, ?_, ?_, rfl⟩
  · have hlow : s.sp - 2 + 1 = s.sp - 1 := by bv_omega
    change (s.pushed ra).wordAt (s.sp - 2 + 1) = ra
    rw [hlow, State.wordAt_pushed hw]
  · have hback : s.sp - 2 + 2 = s.sp := by bv_omega
    change ({ s.regs with sp := s.sp - 2 + 2 } : Regs) = s.regs
    rw [hback]
    rfl

/-! ## One bit of a byte written and written back -/

theorem bitPut_bitPut_old (v : Byte) (b : BitVec 3) (c : Bool) :
    bitPut (bitPut v b c) b (bitOf v b) = v := by
  apply BitVec.eq_of_getLsbD_eq
  intro k hk
  rw [isWithBit_bitPut (bitPut v b c) b (bitOf v b) k hk]
  split
  · rw [‹k = b.toNat›, bitOf]
  · rw [isWithBit_bitPut v b c k hk, if_neg ‹_›]

/-- Bit 0 of a PSW byte, where IMF is saved, reaches no flag (10_state.md R29, R30). -/
theorem pswOfByte_bitPut_zero (v : Byte) (c : Bool) : pswOfByte (bitPut v 0 c) = pswOfByte v := by
  have hkeep {k : Nat} (hk : k < 8) (h0 : k ≠ 0) : (bitPut v 0 c).getLsbD k = v.getLsbD k :=
    (isWithBit_bitPut v 0 c k hk).trans (if_neg h0)
  simp only [pswOfByte, hkeep, Nat.reduceLT, ne_eq, OfNat.ofNat_ne_zero, not_false_eq_true]

section Imf
variable {s : State}

theorem imf_withImf (hw : Memory.wf s.mem = true) (c : Bool) : (s.withImf c).imf = c :=
  (imf_setByte hw _).trans (isWithBit_bitPut _ 0 c 0 (by omega))

theorem State.byteAt_withImf_same (hw : Memory.wf s.mem = true) (c : Bool) :
    (s.withImf c).byteAt imfAddress = bitPut (s.byteAt imfAddress) 0 c :=
  State.byteAt_setByte_same _ _ _ hw

theorem State.byteAt_withImf_other {a : Word} (ha : a ≠ imfAddress) (c : Bool) :
    (s.withImf c).byteAt a = s.byteAt a := State.byteAt_setByte_other _ _ _ _ ha

theorem State.byteAt_of_mem {t : State} (h : t.mem = s.mem) (a : Word) :
    t.byteAt a = s.byteAt a := congrArg (Memory.get · a.toNat) h

theorem State.byteAt_withImf_of_mem {t : State} (h : t.mem = s.mem) (c : Bool) (a : Word) :
    (t.withImf c).byteAt a = (s.withImf c).byteAt a := by
  refine State.byteAt_of_mem ?_ a
  rw [State.withImf, State.withImf, State.setByte_mem, State.setByte_mem, State.byteAt_of_mem h, h]

/-- IMF written back as it was leaves every byte as it was. -/
theorem State.byteAt_withImf_withImf (hw : Memory.wf s.mem = true) (c : Bool) (a : Word) :
    ((s.withImf c).withImf s.imf).byteAt a = s.byteAt a := by
  by_cases ha : a = imfAddress
  · subst ha
    have hw' : Memory.wf (s.withImf c).mem = true := Memory.wf_setByte _ _ hw
    rw [byteAt_withImf_same hw', byteAt_withImf_same hw]
    exact bitPut_bitPut_old _ 0 c
  · rw [byteAt_withImf_other ha, byteAt_withImf_other ha]

end Imf

/-! ## The frame of a handler (46 R443, 60_exceptions.md R462) -/

section Framed
variable {s : State} (ra : Word) (low : BitVec 2)

theorem State.byteAt_framed_other {a : Word} (h0 : a ≠ s.sp) (h1 : a ≠ s.sp - 1)
    (h2 : a ≠ s.sp - 2) : (s.framed ra low).byteAt a = s.byteAt a := by
  rw [State.framed, State.byteAt_setByte_other _ _ _ _ h2, State.byteAt_setByte_other _ _ _ _ h1,
    State.byteAt_setByte_other _ _ _ _ h0]

variable (hw : Memory.wf s.mem = true)
include hw

theorem State.wf_framed : Memory.wf (s.framed ra low).mem = true :=
  Memory.wf_setByte _ _ (Memory.wf_setByte _ _ (Memory.wf_setByte _ _ hw))

theorem State.byteAt_framed_psw :
    (s.framed ra low).byteAt s.sp = bitPut (pswImage s.psw low) 0 s.imf := by
  have h1 : s.sp ≠ s.sp - 1 := (sub_one_ne s.sp).symm
  have h2 : s.sp ≠ s.sp - 2 := by bv_omega
  rw [State.framed, State.byteAt_setByte_other _ _ _ _ h2, State.byteAt_setByte_other _ _ _ _ h1,
    State.byteAt_setByte_same _ _ _ hw]

theorem State.wordAt_framed : (s.framed ra low).wordAt (s.sp - 2) = ra := by
  have hnext : s.sp - 2 + 1 = s.sp - 1 := by bv_omega
  have h12 : s.sp - 1 ≠ s.sp - 2 := by bv_omega
  have hw0 := Memory.wf_setByte s.sp (bitPut (pswImage s.psw low) 0 s.imf) hw
  rw [State.wordAt, hnext, State.framed, State.byteAt_setByte_other _ _ _ _ h12,
    State.byteAt_setByte_same _ _ _ hw0, State.byteAt_setByte_same _ _ _ (Memory.wf_setByte _ _ hw0),
    mkWord_hiByte_loByte]

end Framed

/-! ## RETI in the handler -/

section Handler
variable {s : State} (h0 : s.sp ≠ imfAddress) (h1 : s.sp - 1 ≠ imfAddress)
  (h2 : s.sp - 2 ≠ imfAddress)
include h0 h1 h2

theorem imf_framed (ra : Word) (low : BitVec 2) : (s.framed ra low).imf = s.imf :=
  congrArg (bitOf · 0) (State.byteAt_framed_other ra low h0.symm h1.symm h2.symm)

/-- The return from a handler entered with its frame off 003AH, from any state with the registers and
the memory of the entry: what the frame holds comes back (46 R441, 60_exceptions.md R465). -/
theorem returnFromHandler_of_framed {t : State} {ra : Word} {low : BitVec 2} (h : t.allRam)
    (hw : Memory.wf s.mem = true) (hregs : t.regs = { s.regs with sp := s.sp - 3 })
    (hmem : t.mem = ((s.framed ra low).withImf false).mem) :
    ∃ u, returnFromHandler t = .next u ∧ u.pc = ra ∧ u.regs = s.regs ∧ u.psw = s.psw
      ∧ u.imf = s.imf
      ∧ ∀ a, a ≠ s.sp → a ≠ s.sp - 1 → a ≠ s.sp - 2 → u.byteAt a = s.byteAt a := by
  have hsp : t.sp = s.sp - 3 := congrArg Regs.sp hregs
  have hra : t.sp + 1 = s.sp - 2 := by rw [hsp]; bv_omega
  have hback : t.sp + 3 = s.sp := by rw [hsp]; bv_omega
  have hnext : s.sp - 2 + 1 = s.sp - 1 := by bv_omega
  have hread {a : Word} (ha : a ≠ imfAddress) : t.byteAt a = (s.framed ra low).byteAt a :=
    (State.byteAt_of_mem hmem a).trans (State.byteAt_withImf_other ha false)
  have hword : t.wordAt (s.sp - 2) = ra := by
    rw [State.wordAt, hread h2, hread (hnext ▸ h1)]
    exact State.wordAt_framed ra low hw
  have hpsw : t.byteAt s.sp = bitPut (pswImage s.psw low) 0 s.imf :=
    (hread h0).trans (State.byteAt_framed_psw ra low hw)
  have hbit : bitOf (bitPut (pswImage s.psw low) 0 s.imf) 0 = s.imf :=
    isWithBit_bitPut _ 0 s.imf 0 (by omega)
  have hbytes (a : Word) : (t.withImf s.imf).byteAt a = (s.framed ra low).byteAt a := by
    rw [State.byteAt_withImf_of_mem hmem, ← imf_framed h0 h1 h2 ra low,
      State.byteAt_withImf_withImf (State.wf_framed ra low hw)]
  have hret := returnFromHandler_allRam h
  rw [hra, hback, hword, hpsw, hbit, pswOfByte_bitPut_zero, pswOfByte_pswImage] at hret
  refine ⟨_, hret, rfl, ?_, rfl, ?_, fun a ha0 ha1 ha2 => ?_⟩
  · change ({ t.regs with sp := s.sp } : Regs) = s.regs
    rw [hregs]
    rfl
  · exact (congrArg (bitOf · 0) (hbytes imfAddress)).trans (imf_framed h0 h1 h2 ra low)
  · exact (hbytes a).trans (State.byteAt_framed_other ra low ha0 ha1 ha2)

end Handler

end Sys2Proof.Machine

open Sys2Proof Sys2Proof.Machine

/-- Settles O56: SWI leaves the frame (`softwareInterruptEntersItsHandler`), whose reading back is
`returnFromHandler_of_framed`. -/
theorem interruptReturnUndoesSoftwareInterrupt :
    Obligations.InterruptReturnUndoesSoftwareInterrupt := by
  rintro s pc h ⟨hw, -⟩ h0 h1 h2
  obtain ⟨low, hswi⟩ := softwareInterruptEntersItsHandler s h
  obtain ⟨u, hreti, hu⟩ := returnFromHandler_of_framed h0 h1 h2 h hw
    (t := { ((s.framed (s.pc + 1) low).withImf false).putSp (s.sp - 3) with
      pc := pc, draws := s.draws + 1 }) rfl rfl
  exact ⟨_, u, hswi, hreti, imf_withImf (State.wf_framed _ low hw) false, rfl, hu⟩

/-- Settles O52: every call leaves its return address pushed (`callsPushTheReturnAddress`), which RET
takes off the stack (`exec_ret_of_pushed`). -/
theorem returnUndoesTheCall : Obligations.ReturnUndoesTheCall := by
  intro s mn pc gg n h hw
  obtain ⟨hcallv, hcallMn, hcallGg, -⟩ := callsPushTheReturnAddress s n mn gg .incSp h hw
  exact ⟨exec_ret_allRam h, exec_ret_of_pushed h hw hcallMn pc, exec_ret_of_pushed h hw hcallGg pc,
    exec_ret_of_pushed h hw hcallv pc⟩

/-- Settles O53 (`exec_nop`). -/
theorem nopOnlyAdvances : Obligations.NopOnlyAdvances := ⟨exec_nop, rfl, rfl⟩

end

section
/-! PROOFS. O8, O57, O58: the boundary between two instructions. A step past `halt_address` is
`acceptEvent`, one equation per event; a refusal comes from neither an event nor an instruction. -/

namespace Sys2Proof.Machine

/-- A boundary that is not the run's end (60_exceptions.md R461, R477). -/
theorem step_eq_acceptEvent {s : State} (hhalt : s.haltAddress ≠ some s.pc) :
    step s = acceptEvent s.offers s.pastOffers fun t => fetch t exec := if_neg hhalt

/-! ## The event accepted (60_exceptions.md R461, R464; 70_reset_and_hazards.md R480) -/

theorem firstInterrupt_cons (n : Nat) (es : List HostEvent) :
    firstInterrupt (.interrupt n :: es) = some n := rfl

section Events
variable {offers : List HostEvent} {s : State} (k : State → Result)

theorem acceptEvent_reset (hreset : .reset ∈ offers) :
    acceptEvent offers s k = .next s.reloaded := if_pos hreset

theorem acceptEvent_nmi (hreset : .reset ∉ offers) (hnmi : .nmi ∈ offers) :
    acceptEvent offers s k = enterHandler s.pc Config.nmiVector s := by
  unfold acceptEvent
  rw [if_neg hreset, if_pos hnmi]

theorem acceptEvent_uninterrupted (hreset : .reset ∉ offers) (hnmi : .nmi ∉ offers)
    (hnone : firstInterrupt offers = none) : acceptEvent offers s k = k s := by
  unfold acceptEvent
  rw [if_neg hreset, if_neg hnmi, hnone]

theorem acceptEvent_interrupt (hreset : .reset ∉ offers) (hnmi : .nmi ∉ offers) {n : Nat}
    (hfirst : firstInterrupt offers = some n) : acceptEvent offers s k
      = loadImf s fun imf t => if imf then enterHandler t.pc (Config.irqVector n) t else k t := by
  unfold acceptEvent
  rw [if_neg hreset, if_neg hnmi, hfirst]

/-! ## IMF decides a maskable interrupt (60_exceptions.md R464) -/

theorem loadImf_allRam (h : s.allRam) (k : Bool → State → Result) : loadImf s k = k s.imf s := by
  unfold loadImf
  rw [loadByte_ram (h imfAddress)]
  rfl

theorem acceptEvent_unmasked (h : s.allRam) (himf : s.imf = true) (hreset : .reset ∉ offers)
    (hnmi : .nmi ∉ offers) {n : Nat} (hfirst : firstInterrupt offers = some n) :
    acceptEvent offers s k = enterHandler s.pc (Config.irqVector n) s := by
  rw [acceptEvent_interrupt k hreset hnmi hfirst, loadImf_allRam h, himf, if_pos rfl]

theorem acceptEvent_masked (h : s.allRam) (himf : s.imf = false) (hreset : .reset ∉ offers)
    (hnmi : .nmi ∉ offers) : acceptEvent offers s k = k s := by
  cases hfirst : firstInterrupt offers with
  | none => exact acceptEvent_uninterrupted k hreset hnmi hfirst
  | some n =>
    rw [acceptEvent_interrupt k hreset hnmi hfirst, loadImf_allRam h, himf, if_neg nofun]

end Events

/-- The five bytes at PC, or the first of them, decide, and all are in `ram`. -/
theorem fetch_allRam {s : State} {i : Instr} (h : s.allRam)
    (hi : decode [s.codeByte 0, s.codeByte 1, s.codeByte 2, s.codeByte 3, s.codeByte 4] = .instr i)
    (k : Instr → State → Result) : fetch s k = k i s := by
  refine fetchFrom_plainAt k _ le_rfl (fun j hj => ⟨?plain, ?byte⟩) rfl hi
  case plain => simp [plainAt, h _]
  case byte =>
    change j < 5 at hj
    interval_cases j <;> rfl

/-! ## What is never refused -/

theorem loadByte_not_refused {a : Word} {s : State} {k : Byte → State → Result} {r : Refusal}
    (hk : ∀ v t, k v t ≠ .refused r) : loadByte a s k ≠ .refused r := by
  intro h
  obtain ⟨v, t, -, hr⟩ := loadByte_refused h
  exact hk v t hr

theorem exec_not_refused (i : Instr) (s : State) (r : Refusal) : exec i s ≠ .refused r := by
  obtain ⟨-, -, hrefused⟩ := stopsNameTheirCause i s
  exact hrefused r

theorem fetchFrom_not_refused {k : Instr → State → Result} {r : Refusal}
    (hk : ∀ i t, k i t ≠ .refused r) (fuel : Nat) (a : Word) (read : List Byte) (s : State) :
    fetchFrom fuel a read s k ≠ .refused r := by
  induction fuel generalizing a read s with
  | zero => nofun
  | succ fuel ih =>
    refine loadByte_not_refused fun b t => ?_
    split
    · exact hk _ t
    · exact ih _ _ t
    · nofun

theorem enterHandler_not_refused (ra vector : Word) (s : State) (r : Refusal) :
    enterHandler ra vector s ≠ .refused r := (enterHandler_accesses ra vector s).not_refused r

theorem acceptEvent_not_refused {offers : List HostEvent} {s : State} {k : State → Result}
    {r : Refusal} (hk : ∀ t, k t ≠ .refused r) : acceptEvent offers s k ≠ .refused r := by
  by_cases hreset : .reset ∈ offers
  · rw [acceptEvent_reset k hreset]
    nofun
  by_cases hnmi : .nmi ∈ offers
  · rw [acceptEvent_nmi k hreset hnmi]
    exact enterHandler_not_refused _ _ s r
  cases hfirst : firstInterrupt offers with
  | none =>
    rw [acceptEvent_uninterrupted k hreset hnmi hfirst]
    exact hk s
  | some n =>
    rw [acceptEvent_interrupt k hreset hnmi hfirst]
    refine loadByte_not_refused fun v t => ?_
    dsimp only
    split
    · exact enterHandler_not_refused _ _ t r
    · exact hk t

end Sys2Proof.Machine

open Sys2Proof Sys2Proof.Machine

/-- Settles O8: away from `halt_address` a step is an event or an instruction, and neither is
refused (`acceptEvent_not_refused`). -/
theorem stepIsRefusedExactlyAtHaltAddress : Obligations.StepIsRefusedExactlyAtHaltAddress := by
  intro s r
  by_cases hhalt : s.haltAddress = some s.pc
  · have hstep : step s = .refused .runEnded := if_pos hhalt
    simp [hstep, hhalt, eq_comm]
  · have hstep : step s ≠ .refused r := by
      rw [step_eq_acceptEvent hhalt]
      exact acceptEvent_not_refused fun t =>
        fetchFrom_not_refused (fun i u => exec_not_refused i u r) 5 t.pc [] t
    simp [hstep, hhalt]

/-- Settles O57 (`acceptEvent_reset`). -/
theorem resetEventReloadsTheMachine : Obligations.ResetEventReloadsTheMachine := by
  intro s hhalt hreset
  rw [step_eq_acceptEvent hhalt, acceptEvent_reset _ hreset]
  rfl

/-- Settles O58: an accepted interrupt enters its handler from the state past the offers
(`enterHandler_allRam`), a masked one leaves the step to the fetch (`fetch_allRam`). -/
theorem interruptsAreAcceptedAtBoundaries : Obligations.InterruptsAreAcceptedAtBoundaries := by
  intro s n es h hhalt hreset
  have hpast : s.pastOffers.allRam := h
  rw [step_eq_acceptEvent hhalt]
  refine ⟨fun hnmi => ?nmi, fun hoffers hes himf => ?unmasked, fun hnmi himf i hi => ?masked⟩
  case nmi =>
    rw [acceptEvent_nmi _ hreset hnmi]
    exact enterHandler_allRam hpast _ _
  case unmasked =>
    have hnmi : .nmi ∉ s.offers := by simpa [hoffers] using hes
    have hfirst : firstInterrupt s.offers = some n := by rw [hoffers, firstInterrupt_cons]
    rw [acceptEvent_unmasked _ hpast himf hreset hnmi hfirst]
    exact enterHandler_allRam hpast _ _
  case masked =>
    rw [acceptEvent_masked _ hpast himf hreset hnmi]
    exact fetch_allRam hpast hi exec

end
